-- ==== Sys2Proof/Word.lean ====
section
/-! DEFINITION. The word types of the TR3100 protocol engine (spec/00_scope.md R8). -/

namespace Sys2Proof

/-- A byte of a frame or of the TX and RX buffers. -/
abbrev Byte := BitVec 8

/-- The 16-bit fields: CRC registers, start address, register count. -/
abbrev Half := BitVec 16

/-- A 32-bit bus word (20_memory.md R71). -/
abbrev Word := BitVec 32

/-- A 64-bit pattern of a binary64 value (00_scope.md R10). -/
abbrev DWord := BitVec 64

/-- A byte offset in the engine's 4 KiB window (20_memory.md R70). -/
abbrev Offset := BitVec 12

end Sys2Proof
end

