-- ==== Sys2Proof/Syntax.lean ====
section
/-! DEFINITION. The syntax: the sixteen commands of spec/opcode_table.json (spec/30_encoding.md R91), the channel
kinds (00_scope.md R13) and what the host and the platform can do to the engine (20_memory.md R70). -/

namespace Sys2Proof

/-- One constructor per row of spec/opcode_table.json. Every constructor carries ARG, bits [15:8] of the command
word (R90): eleven commands ignore it, and every value of it is a legal word of theirs (R93; log entry 19). -/
inductive Instr where
  /-- NOP, OP 0x00 (45_control.md R190). -/
  | nop (arg : Byte)
  /-- CRC_START, OP 0x01 (41_crc.md R110). -/
  | crcStart (arg : Byte)
  /-- CRC_FEED, OP 0x02 (41_crc.md R112); ARG is the data byte. -/
  | crcFeed (arg : Byte)
  /-- CRC_LOAD_PROFILE, OP 0x03 (41_crc.md R113); ARG is the profile number. -/
  | crcLoadProfile (arg : Byte)
  /-- CRC_COMPUTE_RX, OP 0x04 (41_crc.md R114). -/
  | crcComputeRx (arg : Byte)
  /-- BUILD_RTU_READ, OP 0x10 (42_framer.md R131). -/
  | buildRtuRead (arg : Byte)
  /-- BUILD_RTU_WRITE, OP 0x11 (42_framer.md R132). -/
  | buildRtuWrite (arg : Byte)
  /-- BUILD_MMK, OP 0x12 (42_framer.md R134). -/
  | buildMmk (arg : Byte)
  /-- VALIDATE_RTU, OP 0x20 (43_parser.md R151). -/
  | validateRtu (arg : Byte)
  /-- EXTRACT_F32, OP 0x21 (43_parser.md R153); ARG is the payload offset. -/
  | extractF32 (arg : Byte)
  /-- EXTRACT_U16, OP 0x22 (43_parser.md R154); ARG is the payload offset. -/
  | extractU16 (arg : Byte)
  /-- MMK_DECODE, OP 0x23 (43_parser.md R155). -/
  | mmkDecode (arg : Byte)
  /-- SMP_ADD, OP 0x30 (44_sampler.md R175); ARG[1:0] is the channel kind, ARG[7:2] must be 0. -/
  | smpAdd (arg : Byte)
  /-- SMP_CLEAR, OP 0x31 (44_sampler.md R180). -/
  | smpClear (arg : Byte)
  /-- CLEAR_STATUS, OP 0x3E (45_control.md R191). -/
  | clearStatus (arg : Byte)
  /-- SOFT_RESET, OP 0x3F (45_control.md R192). -/
  | softReset (arg : Byte)
  deriving DecidableEq, Repr

/-- ChannelKind, in the order of its 2-bit values 0, 1, 2, 3 (00_scope.md R13). -/
inductive ChannelKind where
  /-- Resistance, 0. -/
  | r
  /-- Inductance, 1. -/
  | l
  /-- Capacitance, 2. -/
  | c
  /-- Mutual inductance, 3. -/
  | m
  deriving DecidableEq, Repr

/-- The width of a bus access (20_memory.md R71). -/
inductive AccessWidth where
  | w8
  | w16
  | w32
  | w64
  deriving DecidableEq, Repr

/-- What the host and the platform can do to the engine: a bus read, a bus write (20_memory.md R70), or a move of
the reset line (70_reset_and_hazards.md R220). The value of a write has 32 bits: an access of any other width has
no effect (R71), so its value is never looked at (log entry 4). -/
inductive BusEvent where
  /-- `MemRead(offset, width)`. -/
  | read (offset : Offset) (width : AccessWidth)
  /-- `MemWrite(offset, width, value)`. -/
  | write (offset : Offset) (width : AccessWidth) (value : Word)
  /-- The platform drives the reset line: asserted or not. -/
  | resetLine (asserted : Bool)
  deriving DecidableEq, Repr

end Sys2Proof
end

