-- ==== Sys2Proof/WellFormed.lean ====
section
/-! DEFINITION. Well-formed commands and bus events. An ill-formed command still decodes and runs: it ends with
BAD_ARG (spec/30_encoding.md R92, 60_exceptions.md R207). -/

namespace Sys2Proof

/-- The operand check of a command (60_exceptions.md R200, BAD_ARG): CRC_LOAD_PROFILE takes ARG 0 or 1 (41_crc.md
R113), SMP_ADD needs ARG[7:2] = 0 (44_sampler.md R175), every other command takes every ARG. -/
def Instr.wellFormed : Instr → Bool
  | .nop _ => true
  | .crcStart _ => true
  | .crcFeed _ => true
  | .crcLoadProfile arg => decide (arg.toNat < 2)
  | .crcComputeRx _ => true
  | .buildRtuRead _ => true
  | .buildRtuWrite _ => true
  | .buildMmk _ => true
  | .validateRtu _ => true
  | .extractF32 _ => true
  | .extractU16 _ => true
  | .mmkDecode _ => true
  | .smpAdd arg => decide (arg.toNat < 4)
  | .smpClear _ => true
  | .clearStatus _ => true
  | .softReset _ => true

/-- A command whose operand the engine accepts. -/
abbrev Instr.WellFormed (i : Instr) : Prop := i.wellFormed = true

/-- An access the bus serves: 32 bits wide, at an offset that is a multiple of 4 (20_memory.md R71). -/
def accessOk (offset : Offset) (width : AccessWidth) : Bool :=
  decide (width = .w32) && decide (offset.toNat % 4 = 0)

/-- A bus event the engine has a step for. -/
def BusEvent.wellFormed : BusEvent → Bool
  | .read offset width => accessOk offset width
  | .write offset width _ => accessOk offset width
  | .resetLine _ => true

/-- A bus event that is not answered with a bus error. -/
abbrev BusEvent.WellFormed (e : BusEvent) : Prop := e.wellFormed = true

end Sys2Proof
end

