-- ==== Sys2Proof/Decode.lean ====
section
/-! DEFINITION. The decoder of the command word (spec/30_encoding.md R90 to R94), the encoder after it, and the
decoder of a row of spec/opcode_table.json. -/

namespace Sys2Proof

/-- Why a word is illegal (30_encoding.md R94). Either way the command ends with ILLEGAL_CMD. -/
inductive DecodeError where
  /-- RSV, bits [31:16], is not zero. -/
  | reservedBits
  /-- OP, bits [7:0], is not in the opcode map of R91. -/
  | unlistedOp
  deriving DecidableEq, Repr

/-- OP, bits [7:0] of a command word (R90). -/
def opField (w : Word) : Byte := w.extractLsb' 0 8

/-- ARG, bits [15:8] of a command word (R90). -/
def argField (w : Word) : Byte := w.extractLsb' 8 8

/-- RSV, bits [31:16] of a command word (R90). -/
def rsvField (w : Word) : Half := w.extractLsb' 16 16

/-- The opcode map of R91. -/
def decodeOp (op arg : Byte) : Option Instr :=
  match op with
  | 0x00#8 => some (.nop arg)
  | 0x01#8 => some (.crcStart arg)
  | 0x02#8 => some (.crcFeed arg)
  | 0x03#8 => some (.crcLoadProfile arg)
  | 0x04#8 => some (.crcComputeRx arg)
  | 0x10#8 => some (.buildRtuRead arg)
  | 0x11#8 => some (.buildRtuWrite arg)
  | 0x12#8 => some (.buildMmk arg)
  | 0x20#8 => some (.validateRtu arg)
  | 0x21#8 => some (.extractF32 arg)
  | 0x22#8 => some (.extractU16 arg)
  | 0x23#8 => some (.mmkDecode arg)
  | 0x30#8 => some (.smpAdd arg)
  | 0x31#8 => some (.smpClear arg)
  | 0x3E#8 => some (.clearStatus arg)
  | 0x3F#8 => some (.softReset arg)
  | _ => none

/-- Decoding a word written to CMD, in the order of R92: RSV first, then OP. Total: every 32-bit word has exactly
one outcome. -/
def decode (w : Word) : Except DecodeError Instr :=
  if rsvField w = 0 then
    match decodeOp (opField w) (argField w) with
    | some i => .ok i
    | none => .error .unlistedOp
  else .error .reservedBits

/-- The opcode of a command (R91). -/
def opcode : Instr → Byte
  | .nop _ => 0x00
  | .crcStart _ => 0x01
  | .crcFeed _ => 0x02
  | .crcLoadProfile _ => 0x03
  | .crcComputeRx _ => 0x04
  | .buildRtuRead _ => 0x10
  | .buildRtuWrite _ => 0x11
  | .buildMmk _ => 0x12
  | .validateRtu _ => 0x20
  | .extractF32 _ => 0x21
  | .extractU16 _ => 0x22
  | .mmkDecode _ => 0x23
  | .smpAdd _ => 0x30
  | .smpClear _ => 0x31
  | .clearStatus _ => 0x3E
  | .softReset _ => 0x3F

/-- The ARG operand of a command. -/
def operand : Instr → Byte
  | .nop arg => arg
  | .crcStart arg => arg
  | .crcFeed arg => arg
  | .crcLoadProfile arg => arg
  | .crcComputeRx arg => arg
  | .buildRtuRead arg => arg
  | .buildRtuWrite arg => arg
  | .buildMmk arg => arg
  | .validateRtu arg => arg
  | .extractF32 arg => arg
  | .extractU16 arg => arg
  | .mmkDecode arg => arg
  | .smpAdd arg => arg
  | .smpClear arg => arg
  | .clearStatus arg => arg
  | .softReset arg => arg

/-- The command word of a command: {RSV = 0, ARG, OP} (R90; the expansion of `CMD M, a` in R103). -/
def encode (i : Instr) : Word := (0 : Half) ++ (operand i ++ opcode i : Half)

/-- The instruction the decoder reads from a row's bits `w`. A command is one 32-bit word (R95), bit 0 its least
significant bit; the bits at and above `nbits` are 0. -/
def decodeTableWord (nbits w : Nat) : Option Instr :=
  match decode (BitVec.ofNat 32 (w % 2 ^ nbits)) with
  | .ok i => some i
  | .error _ => none

end Sys2Proof
end

