-- ==== Sys2Proof/Config.lean ====
section
/-! DEFINITION. What an implementation or a platform fixes: the parameters of spec/00_scope.md R7 and the
values spec/93_implementation_defined.md leaves open. A constant without a body is a free value: nothing can
evaluate it, so a statement holds for every value of it. -/

namespace Sys2Proof.Config

/-- `TXMAX` (R7): the size of the TX buffer in bytes. -/
def txMax : Nat := 18

/-- `RXMAX` (R7): the size of the RX buffer in bytes. -/
def rxMax : Nat := 256

/-- `NMAX` (R7): the largest sampler capacity, and the number of slots of each sample store (R52). -/
abbrev nMax : Nat := 255

/-- `WINDOW` (R7): the size of the register window in bytes. -/
def window : Nat := 4096

/-- `BASE` (R7, R70, U4) in units of 4096 bytes: the spec leaves it OPEN and aligned to 4096 (log entry 12). -/
opaque basePage : Nat

/-- Free value: the 64 bits from which the sign and the payload of a NaN are taken (U2, U3; R171), one draw for
each number (log entries 9 and 10). -/
opaque freeNaNBits : Nat → DWord

/-- Free value: the contents of a sample store after a reset of the engine (U1; R52, R192, R221), one draw for each
number (log entry 8). -/
opaque freeStore : Nat → Vector DWord nMax

end Sys2Proof.Config
end

