-- ==== Sys2Proof/Machine/State.lean ====
section
/-! DEFINITION. The architectural state of spec/10_state.md, the outcomes of a step other than a next state, and
the state after reset (70_reset_and_hazards.md R221). -/

namespace Sys2Proof.Machine

/-- The 18 result codes of 60_exceptions.md R200. No other code is ever written (U15; log entry 15). -/
inductive ResultCode where
  | ok
  | illegalCmd
  | badArg
  | frameTooShort
  | crcMismatch
  | addressMismatch
  | bcUnsupported
  | bcSlaveError
  | funcCountMismatch
  | mmkBadStart
  | mmkBadStuff
  | mmkNoEnd
  | mmkTrailing
  | mmkBadLength
  | mmkCrcMismatch
  | extractRange
  | fillAccepted
  | fillRejected
  deriving DecidableEq, Repr

/-- Why a step faults. -/
inductive Fault where
  /-- The bus error of 20_memory.md R71: an access that is not 32 bits wide or not at a multiple of 4. Raised by the
  bus, never by a command. Safe: the engine itself changes no state and would serve the next access (log entry 4). -/
  | busError
  deriving DecidableEq, Repr

/-- Why a step is refused. -/
inductive Refusal where
  /-- A command without a meaning. Raised by no arm: every command has its meaning. Safe. -/
  | notModelled (mnemonic : String)
  /-- An access while the reset line is asserted: the answer belongs to the platform (70_reset_and_hazards.md R220,
  U7). Raised by the bus, never by a command. Safe (log entry 5). -/
  | accessInReset
  deriving DecidableEq, Repr

/-- A byte buffer of the engine (TX or RX): cells of (index, byte), indices strictly rising, no cell holding the byte
an unlisted index reads as (log entry 17). -/
abbrev Memory := List Host.Cell

/-- What an unlisted index reads as: 0x00, the contents after reset (10_state.md R44, R45). -/
def Memory.fill : Byte := 0x00

/-- Every index of the cells lies above `lo`, the indices rise, and no cell holds the fill byte. -/
def Memory.risingFrom (lo : Nat) : Memory → Bool
  | [] => true
  | (a, b) :: m => decide (lo ≤ a) && decide (b ≠ Memory.fill) && Memory.risingFrom (a + 1) m

/-- The canonical form. -/
def Memory.wf (m : Memory) : Bool := Memory.risingFrom 0 m

/-- Every cell's index lies below `size`: the buffer has no byte there (TX[18] does not exist, R44). -/
def Memory.below (size : Nat) (m : Memory) : Bool := m.all fun c => decide (c.1 < size)

/-- A sample store of 255 binary64 slots (10_state.md R52). -/
abbrev Store := Vector DWord Config.nMax

/-- What the bus returned for the last access served (20_memory.md R70; log entry 3). -/
inductive BusAnswer where
  /-- No access has been served yet. -/
  | none
  /-- A write was done. -/
  | written
  /-- A read returned this word. -/
  | data (w : Word)
  deriving DecidableEq, Repr

/-- The state of the engine, and the host's sequence of bus events it has yet to serve. Registers are held at the
width of their fields: a reserved bit reads 0 and ignores writes (10_state.md R54; log entry 16). -/
structure State where
  /-- STATUS.LAST_RESULT (R23). -/
  lastResult : ResultCode
  /-- STATUS.ERR (R23). -/
  err : Bool
  /-- CRC_CFG: WIDTH16, ALG, REFIN, REFOUT in bits 0 to 3 (R24). -/
  crcCfg : BitVec 4
  /-- CRC_POLY (R25). -/
  crcPoly : Half
  /-- CRC_INIT (R26). -/
  crcInit : Half
  /-- CRC_XOROUT (R27). -/
  crcXorout : Half
  /-- CRC_STATE (R28). -/
  crcState : Half
  /-- FR_SLAVE (R30). -/
  frSlave : Byte
  /-- FR_FUNC (R31). -/
  frFunc : Byte
  /-- FR_START (R32). -/
  frStart : Half
  /-- FR_COUNT (R33). -/
  frCount : Half
  /-- FR_BPR (R34). -/
  frBpr : Byte
  /-- FR_VALUE (R35). -/
  frValue : Half
  /-- FR_XFUNC: XF0 in bits 7 to 0, XF1 in bits 15 to 8 (R36). -/
  frXfunc : Half
  /-- TX[0] to TX[17] (R44). -/
  tx : Memory
  /-- TX_LEN (R39). -/
  txLen : BitVec 5
  /-- RX[0] to RX[255] (R45). -/
  rx : Memory
  /-- RX_LEN (R40). -/
  rxLen : BitVec 9
  /-- VAL_PL_LEN (R41). -/
  valPlLen : Byte
  /-- EXT_WORD (R42). -/
  extWord : Word
  /-- MMK_DEC0 (R43). -/
  mmkDec0 : Word
  /-- MMK_DEC1 (R43). -/
  mmkDec1 : Word
  /-- SMP_N (R46). -/
  smpN : Byte
  /-- SMP_MAXDEV_LO (R47). -/
  smpMaxdevLo : Word
  /-- SMP_MAXDEV_HI (R47). -/
  smpMaxdevHi : Word
  /-- SMP_PRIM (R48). -/
  smpPrim : Word
  /-- SMP_TAN (R48). -/
  smpTan : Word
  /-- SMP_STAT.CURSOR (R49). -/
  cursor : Byte
  /-- SMP_STAT.KIND (R49). -/
  kind : ChannelKind
  /-- SMP_STAT.KIND_VALID (R49). -/
  kindValid : Bool
  /-- SMP_STAT.EST_VALID (R49). -/
  estValid : Bool
  /-- SMP_STAT.LAST_FILL_REJ (R49). -/
  lastFillRej : Bool
  /-- SMP_ACC_CNT (R50). -/
  accCnt : Word
  /-- SMP_REJ_CNT (R50). -/
  rejCnt : Word
  /-- EST_MEAN (R51). -/
  estMean : DWord
  /-- EST_SD (R51). -/
  estSd : DWord
  /-- EST_TMEAN (R51). -/
  estTmean : DWord
  /-- EST_TSD (R51). -/
  estTsd : DWord
  /-- EST_INFO.COUNT (R51). -/
  estCount : Byte
  /-- EST_INFO.KIND (R51). -/
  estKind : ChannelKind
  /-- BUFP, hidden (R52). -/
  bufP : Store
  /-- BUFT, hidden (R52). -/
  bufT : Store
  /-- The MODEL's: the level of the reset input (70_reset_and_hazards.md R220; log entry 6). -/
  resetAsserted : Bool
  /-- The MODEL's: the bus events issued and not yet served, the next one first (10_state.md R20, 20_memory.md R74;
  log entry 1). -/
  pending : List BusEvent
  /-- The MODEL's: the answer to the last access served (log entry 3). -/
  answer : BusAnswer
  /-- The MODEL's: how many free values have been drawn (log entry 11). -/
  draws : Nat
  deriving DecidableEq, Repr

/-- The machine right after reset (70_reset_and_hazards.md R221). The sample stores, whose contents the spec leaves
unspecified, hold zeros (log entry 7); no bus event is pending (log entry 1). -/
def State.reset : State where
  lastResult := .ok
  err := false
  crcCfg := 0x3
  crcPoly := 0xA001
  crcInit := 0xFFFF
  crcXorout := 0x0000
  crcState := 0xFFFF
  frSlave := 0x00
  frFunc := 0x03
  frStart := 0x0000
  frCount := 0x0000
  frBpr := 0x00
  frValue := 0x0000
  frXfunc := 0x5251
  tx := []
  txLen := 0
  rx := []
  rxLen := 0
  valPlLen := 0
  extWord := 0
  mmkDec0 := 0
  mmkDec1 := 0
  smpN := 30
  smpMaxdevLo := 0xC28F5C29
  smpMaxdevHi := 0x3FF028F5
  smpPrim := 0
  smpTan := 0
  cursor := 0
  kind := .r
  kindValid := false
  estValid := false
  lastFillRej := false
  accCnt := 0
  rejCnt := 0
  estMean := 0
  estSd := 0
  estTmean := 0
  estTsd := 0
  estCount := 0
  estKind := .r
  bufP := Vector.replicate Config.nMax 0
  bufT := Vector.replicate Config.nMax 0
  resetAsserted := false
  pending := []
  answer := .none
  draws := 0

end Sys2Proof.Machine
end

