-- ==== Sys2Proof/Machine/Flags.lean ====
section
/-! DEFINITION. Result codes and their classes, the sticky error flag, and the status words a host reads
(spec/60_exceptions.md R200 to R203, 10_state.md R23, R49, R51). -/

namespace Sys2Proof.Machine

/-- The 8-bit value of a result code (R200). -/
def resultByte : ResultCode → Byte
  | .ok => 0x00
  | .illegalCmd => 0x01
  | .badArg => 0x02
  | .frameTooShort => 0x10
  | .crcMismatch => 0x11
  | .addressMismatch => 0x12
  | .bcUnsupported => 0x13
  | .bcSlaveError => 0x14
  | .funcCountMismatch => 0x15
  | .mmkBadStart => 0x20
  | .mmkBadStuff => 0x21
  | .mmkNoEnd => 0x22
  | .mmkTrailing => 0x23
  | .mmkBadLength => 0x24
  | .mmkCrcMismatch => 0x25
  | .extractRange => 0x30
  | .fillAccepted => 0x41
  | .fillRejected => 0x42

/-- The class of a result code (R203). -/
inductive CodeClass where
  | success
  | error
  | information
  deriving DecidableEq, Repr

/-- The class as a function of the code's byte alone: 0x00 success, 0x01 to 0x3F error, 0x40 to 0x4F information,
0x50 to 0xFF no class (R203). -/
def codeClass (b : Byte) : Option CodeClass :=
  if b.toNat = 0 then some .success
  else if b.toNat < 0x40 then some .error
  else if b.toNat < 0x50 then some .information
  else none

/-- Whether a result code sets STATUS.ERR (R200, R202). -/
def isError (c : ResultCode) : Bool := decide (codeClass (resultByte c) = some .error)

/-- STATUS.ERR after a command that ends with code `c` (R202): an error sets it, any other code keeps it. -/
def stickyErr (err : Bool) (c : ResultCode) : Bool := err || isError c

/-- The 2-bit value of a channel kind (00_scope.md R13). -/
def kindBits : ChannelKind → BitVec 2
  | .r => 0
  | .l => 1
  | .c => 2
  | .m => 3

/-- One bit. -/
def bit (b : Bool) : BitVec 1 := if b then 1 else 0

/-- STATUS as it reads: bits [31:9] zero, ERR, LAST_RESULT (R23, R202). -/
def statusWord (s : State) : Word := (bit s.err ++ resultByte s.lastResult : BitVec 9).setWidth 32

/-- SMP_STAT as it reads (R49). -/
def smpStatWord (s : State) : Word :=
  (bit s.lastFillRej ++ (bit s.estValid ++ (bit s.kindValid ++ (kindBits s.kind ++ s.cursor))) : BitVec 13).setWidth 32

/-- EST_INFO as it reads (R51). -/
def estInfoWord (s : State) : Word := (kindBits s.estKind ++ s.estCount : BitVec 10).setWidth 32

end Sys2Proof.Machine
end

