-- ==== Sys2Proof/Machine/Ops.lean ====
section
/-! DEFINITION. The operations every command shares: byte buffers, sample stores, bit fields, ending a command with
its result code, and resetting the engine. -/

namespace Sys2Proof.Machine

/-- Byte `k` of a buffer (10_state.md R44, R45). -/
def Memory.read : Memory → Nat → Byte
  | [], _ => Memory.fill
  | (a, b) :: m, k => if k = a then b else Memory.read m k

/-- Writing byte `k` of a buffer. Keeps the canonical form: writing the fill byte removes the cell. -/
def Memory.write : Memory → Nat → Byte → Memory
  | [], k, v => if v = Memory.fill then [] else [(k, v)]
  | (a, b) :: m, k, v =>
    if k < a then (if v = Memory.fill then (a, b) :: m else (k, v) :: (a, b) :: m)
    else if k = a then (if v = Memory.fill then m else (k, v) :: m)
    else (a, b) :: Memory.write m k v

/-- Writing consecutive bytes from index `k` on. -/
def Memory.writeBytes (m : Memory) (k : Nat) : List Byte → Memory
  | [] => m
  | b :: bs => Memory.writeBytes (m.write k b) (k + 1) bs

/-- Bytes `0` to `n - 1` of a buffer, in order. -/
def Memory.bytes (m : Memory) (n : Nat) : List Byte := (List.range n).map m.read

/-- The four bytes 4k to 4k+3 as one word, byte 4k in the least significant bits (20_memory.md R72). -/
def packWord (byteAt : Nat → Byte) (k : Nat) : Word :=
  byteAt (4 * k + 3) ++ (byteAt (4 * k + 2) ++ (byteAt (4 * k + 1) ++ byteAt (4 * k)))

/-- Byte `j` of a word, bits [8j+7:8j] (20_memory.md R72). -/
def byteOf (w : Word) (j : Nat) : Byte := w.extractLsb' (8 * j) 8

/-- Storing a word into the four bytes 4k to 4k+3 of a buffer (20_memory.md R72, 10_state.md R45). -/
def Memory.writeWord (m : Memory) (k : Nat) (w : Word) : Memory :=
  m.writeBytes (4 * k) [byteOf w 0, byteOf w 1, byteOf w 2, byteOf w 3]

/-- Slot `i` of a sample store (10_state.md R52). There is no slot 255 or above (log entry 18). -/
def Store.slot (b : Store) (i : Nat) : DWord := b[i]?.getD 0

/-- Writing slot `i` of a sample store; where there is no such slot, nothing (log entry 18). -/
def Store.put (b : Store) (i : Nat) (x : DWord) : Store := b.setIfInBounds i x

/-- The high byte of a 16-bit field. -/
def hiByte (h : Half) : Byte := h.extractLsb' 8 8

/-- The low byte of a 16-bit field. -/
def loByte (h : Half) : Byte := h.extractLsb' 0 8

/-- Ending a command with its result code, which is also `raise CODE`: LAST_RESULT gets the code, an error code sets
the sticky ERR, nothing else changes. There is no trap: no state is saved and control goes nowhere
(60_exceptions.md R201, R202, R204; 00_scope.md R9). -/
def State.finish (s : State) (c : ResultCode) : State :=
  { s with lastResult := c, err := stickyErr s.err c }

/-- The number of free values drawn by a reset of the engine: one for each sample store. -/
def resetDraws : Nat := 2

/-- Resetting the engine (45_control.md R192, 70_reset_and_hazards.md R221): every register, TX and RX get their reset
value, the sample stores get unspecified contents (log entry 8). What belongs to the host and the platform stays: the
reset line, the pending events and the answer of the last access (log entry 22). -/
def State.resetEngine (s : State) : State :=
  { State.reset with
    bufP := Config.freeStore s.draws
    bufT := Config.freeStore (s.draws + 1)
    resetAsserted := s.resetAsserted
    pending := s.pending
    answer := s.answer
    draws := s.draws + resetDraws }

end Sys2Proof.Machine
end

