-- ==== Sys2Proof/Machine/Control.lean ====
section
/-! DEFINITION. The control commands (spec/45_control.md). -/

namespace Sys2Proof.Machine

/-- NOP (R190): LAST_RESULT becomes OK, ERR and everything else stay. -/
def execNop (_arg : Byte) (s : State) : Host.Outcome State Fault Refusal :=
  .next (s.finish .ok)

/-- CLEAR_STATUS (R191): clears the sticky error flag. -/
def execClearStatus (_arg : Byte) (s : State) : Host.Outcome State Fault Refusal :=
  .next ({ s with err := false }.finish .ok)

/-- SOFT_RESET (R192): the reset state, with LAST_RESULT = OK. -/
def execSoftReset (_arg : Byte) (s : State) : Host.Outcome State Fault Refusal :=
  .next (s.resetEngine.finish .ok)

/-- A word that is no command (30_encoding.md R94): it runs no command and ends with ILLEGAL_CMD. -/
def State.illegalCommand (s : State) : State := s.finish .illegalCmd

end Sys2Proof.Machine
end

