-- ==== Sys2Proof/Machine/Operands.lean ====
section
/-! DEFINITION. The operand forms of the commands: ARG as a number, as a payload offset or as a channel kind, the
received frame, the expected lengths and the descriptor (spec/30_encoding.md R90, 43_parser.md R150). -/

namespace Sys2Proof.Machine

/-- ARG as an unsigned number 0 to 255, with no sign extension and no scaling (R90): a profile number or a payload
offset. -/
def argNat (arg : Byte) : Nat := arg.toNat

/-- ARG[7:2], which must be 0 for SMP_ADD (44_sampler.md R175). -/
def argHigh (arg : Byte) : BitVec 6 := arg.extractLsb' 2 6

/-- ARG[1:0] as a channel kind (00_scope.md R13, 44_sampler.md R175). -/
def argKind (arg : Byte) : ChannelKind :=
  match arg.extractLsb' 0 2 with
  | 0#2 => .r
  | 1#2 => .l
  | 2#2 => .c
  | _ => .m

/-- L, the number of received bytes (43_parser.md R150). -/
def rxCount (s : State) : Nat := s.rxLen.toNat

/-- The received frame RX[0 .. RX_LEN-1] (10_state.md R45). -/
def rxFrame (s : State) : List Byte := s.rx.bytes (rxCount s)

/-- D, FR_EXP_DATA: the exact product FR_COUNT · FR_BPR (10_state.md R37). -/
def expData (s : State) : Nat := s.frCount.toNat * s.frBpr.toNat

/-- T, FR_EXP_TOTAL = 5 + D (10_state.md R38). -/
def expTotal (s : State) : Nat := 5 + expData s

/-- XF0 of FR_XFUNC (10_state.md R36). -/
def xf0 (s : State) : Byte := loByte s.frXfunc

/-- XF1 of FR_XFUNC (10_state.md R36). -/
def xf1 (s : State) : Byte := hiByte s.frXfunc

/-- The first six bytes of a plain read request (30_encoding.md R96). -/
def readRequest (s : State) : List Byte :=
  [s.frSlave, s.frFunc, hiByte s.frStart, loByte s.frStart, hiByte s.frCount, loByte s.frCount]

/-- The first six bytes of a plain write request (30_encoding.md R97). -/
def writeRequest (s : State) : List Byte :=
  [s.frSlave, s.frFunc, hiByte s.frStart, loByte s.frStart, hiByte s.frValue, loByte s.frValue]

/-- The first five bytes of the MMK information payload (30_encoding.md R99). -/
def mmkFields (s : State) : List Byte :=
  [s.frSlave, s.frFunc, hiByte s.frStart, loByte s.frStart, loByte s.frCount]

/-- MAXDEV, the 64-bit pattern of the two halves as they stand (10_state.md R47, R228). -/
def maxdevBits (s : State) : DWord := s.smpMaxdevHi ++ s.smpMaxdevLo

end Sys2Proof.Machine
end

