-- ==== Sys2Proof/Machine/CrcUnit.lean ====
section
/-! DEFINITION. The CRC algorithm and the CRC unit's commands (spec/41_crc.md). -/

namespace Sys2Proof.Machine

/-- A CRC configuration: the fields of CRC_CFG, CRC_POLY, CRC_INIT and CRC_XOROUT (10_state.md R24 to R27). -/
structure CrcProfile where
  /-- WIDTH16: W = 16, else W = 8. -/
  width16 : Bool
  /-- ALG: the LSB-end algorithm, else the MSB-end one. -/
  alg : Bool
  /-- REFIN. -/
  refin : Bool
  /-- REFOUT. -/
  refout : Bool
  poly : Half
  init : Half
  xorout : Half
  deriving DecidableEq, Repr

/-- The configuration the registers hold (R24 to R27). -/
def crcProfile (s : State) : CrcProfile where
  width16 := s.crcCfg.getLsbD 0
  alg := s.crcCfg.getLsbD 1
  refin := s.crcCfg.getLsbD 2
  refout := s.crcCfg.getLsbD 3
  poly := s.crcPoly
  init := s.crcInit
  xorout := s.crcXorout

/-- The RTU profile (R113, R117). -/
def rtuProfile : CrcProfile := ⟨true, true, false, false, 0xA001, 0xFFFF, 0x0000⟩

/-- The MMK profile (R113, R117). -/
def mmkProfile : CrcProfile := ⟨true, false, false, false, 0x8005, 0x0000, 0x0000⟩

/-- `mask(W)` (00_scope.md R8). -/
def CrcProfile.mask (p : CrcProfile) : Half := if p.width16 then 0xFFFF else 0x00FF

/-- `rev_W`: the order of the W low bits reversed (00_scope.md R8). -/
def CrcProfile.revW (p : CrcProfile) (s : Half) : Half :=
  if p.width16 then s.reverse else (loByte s).reverse.setWidth 16

/-- One shift of the MSB-end algorithm, ALG = 0 (R111). -/
def CrcProfile.shiftMsb (p : CrcProfile) (s : Half) : Half :=
  let top := if p.width16 then s.getLsbD 15 else s.getLsbD 7
  (if top then (s <<< 1) ^^^ (p.poly &&& p.mask) else s <<< 1) &&& p.mask

/-- One shift of the LSB-end algorithm, ALG = 1 (R111). -/
def CrcProfile.shiftLsb (p : CrcProfile) (s : Half) : Half :=
  if s.getLsbD 0 then (s >>> 1) ^^^ (p.poly &&& p.mask) else s >>> 1

/-- Applying a function `n` times. -/
def repeatFn {α : Type} (f : α → α) : Nat → α → α
  | 0, x => x
  | n + 1, x => repeatFn f n (f x)

/-- The input byte, reversed if REFIN (R111). -/
def CrcProfile.inputByte (p : CrcProfile) (b : Byte) : Byte := if p.refin then b.reverse else b

/-- `crc_step` (R111): the byte enters at the end the algorithm shifts out of, then eight shifts (90_conflicts.md
C1). -/
def CrcProfile.step (p : CrcProfile) (s : Half) (b : Byte) : Half :=
  let s := s &&& p.mask
  let b' := (p.inputByte b).setWidth 16
  if p.alg then repeatFn p.shiftLsb 8 (s ^^^ b')
  else repeatFn p.shiftMsb 8 (s ^^^ (if p.width16 then b' <<< 8 else b'))

/-- `crc_out` (10_state.md R29): output reflection, then xor-out. -/
def CrcProfile.out (p : CrcProfile) (s : Half) : Half :=
  let s := s &&& p.mask
  ((if p.refout then p.revW s else s) ^^^ p.xorout) &&& p.mask

/-- The initial state, INIT masked to W bits (R110, R115). -/
def CrcProfile.start (p : CrcProfile) : Half := p.init &&& p.mask

/-- The state after a byte sequence (R115). -/
def CrcProfile.feed (p : CrcProfile) (s : Half) (d : List Byte) : Half := d.foldl p.step s

/-- `compute` (R115). -/
def CrcProfile.compute (p : CrcProfile) (d : List Byte) : Half := p.out (p.feed p.start d)

/-- CRC_RTU, the fixed function of R117. -/
def crcRtu (d : List Byte) : Half := rtuProfile.compute d

/-- CRC_MMK, the fixed function of R117. -/
def crcMmk (d : List Byte) : Half := mmkProfile.compute d

/-- CRC_RESULT as it reads, computed at each read (10_state.md R29). -/
def crcResult (s : State) : Half := (crcProfile s).out s.crcState

/-- Loading a profile into the configuration registers and restarting, as CRC_START (R113). -/
def State.loadProfile (s : State) (cfg : BitVec 4) (poly init xorout : Half) : State :=
  { s with crcCfg := cfg, crcPoly := poly, crcInit := init, crcXorout := xorout, crcState := init }

/-- CRC_START (R110). -/
def execCrcStart (_arg : Byte) (s : State) : Host.Outcome State Fault Refusal :=
  .next ({ s with crcState := (crcProfile s).start }.finish .ok)

/-- CRC_FEED (R112): feeds the byte ARG. -/
def execCrcFeed (arg : Byte) (s : State) : Host.Outcome State Fault Refusal :=
  .next ({ s with crcState := (crcProfile s).step s.crcState arg }.finish .ok)

/-- CRC_LOAD_PROFILE (R113): 0 is the RTU profile, 1 the MMK profile, every other ARG is BAD_ARG. -/
def execCrcLoadProfile (arg : Byte) (s : State) : Host.Outcome State Fault Refusal :=
  if argNat arg = 0 then .next ((s.loadProfile 0x3 0xA001 0xFFFF 0x0000).finish .ok)
  else if argNat arg = 1 then .next ((s.loadProfile 0x1 0x8005 0x0000 0x0000).finish .ok)
  else .next (s.finish .badArg)

/-- CRC_COMPUTE_RX (R114): the CRC state over the received frame under the configured profile. -/
def execCrcComputeRx (_arg : Byte) (s : State) : Host.Outcome State Fault Refusal :=
  .next ({ s with crcState := (crcProfile s).feed (crcProfile s).start (rxFrame s) }.finish .ok)

end Sys2Proof.Machine
end

