-- ==== Sys2Proof/Machine/Framer.lean ====
section
/-! DEFINITION. The request builders (spec/42_framer.md), with the frame layouts of 30_encoding.md R96 to R100. -/

namespace Sys2Proof.Machine

/-- A frame followed by its CRC_RTU, low byte first (30_encoding.md R96, R97). -/
def withRtuCrc (f : List Byte) : List Byte := f ++ [loByte (crcRtu f), hiByte (crcRtu f)]

/-- A payload followed by its CRC_MMK, high byte first (30_encoding.md R99). -/
def withMmkCrc (p : List Byte) : List Byte := p ++ [hiByte (crcMmk p), loByte (crcMmk p)]

/-- The MMK information payload (42_framer.md R133). -/
def mmkPayload (s : State) : List Byte := withMmkCrc (mmkFields s)

/-- Byte-stuffing: every byte 0x10 is sent twice (30_encoding.md R100). -/
def stuff : List Byte → List Byte
  | [] => []
  | b :: p => if b = 0x10 then 0x10 :: 0x10 :: stuff p else b :: stuff p

/-- The MMK encapsulated frame: start marker, stuffed payload, end marker (30_encoding.md R100). -/
def mmkFrame (p : List Byte) : List Byte := [0x10, 0x02] ++ stuff p ++ [0x10, 0x04]

/-- A frame padded with zeros to the 18 bytes of TX (42_framer.md R130). -/
def txImage (f : List Byte) : List Byte := (List.range Config.txMax).map fun i => f.getD i 0x00

/-- `emit` (42_framer.md R130): writes all 18 bytes of TX, and TX_LEN. -/
def State.emit (s : State) (f : List Byte) : State :=
  { s with tx := s.tx.writeBytes 0 (txImage f), txLen := BitVec.ofNat 5 f.length }

/-- BUILD_RTU_READ (42_framer.md R131). -/
def execBuildRtuRead (_arg : Byte) (s : State) : Host.Outcome State Fault Refusal :=
  .next ((s.emit (withRtuCrc (readRequest s))).finish .ok)

/-- BUILD_RTU_WRITE (42_framer.md R132). -/
def execBuildRtuWrite (_arg : Byte) (s : State) : Host.Outcome State Fault Refusal :=
  .next ((s.emit (withRtuCrc (writeRequest s))).finish .ok)

/-- BUILD_MMK (42_framer.md R134). -/
def execBuildMmk (_arg : Byte) (s : State) : Host.Outcome State Fault Refusal :=
  .next ((s.emit (mmkFrame (mmkPayload s))).finish .ok)

end Sys2Proof.Machine
end

