-- ==== Sys2Proof/Machine/Parser.lean ====
section
/-! DEFINITION. The response validator, the payload extraction and the MMK deframer (spec/43_parser.md). -/

namespace Sys2Proof.Machine

/-- The outcome of the ordered checks (a) to (e) of VALIDATE_RTU, short-circuiting on the first failure (R151). -/
def validateCode (s : State) : ResultCode :=
  let len := rxCount s
  let c := crcRtu (s.rx.bytes (len - 2))
  if len < 5 then .frameTooShort
  else if s.rx.read (len - 2) ≠ loByte c ∨ s.rx.read (len - 1) ≠ hiByte c then .crcMismatch
  else if s.rx.read 0 ≠ s.frSlave then .addressMismatch
  else if len ≠ expTotal s then
    if s.rx.read 1 = xf0 s ∨ s.rx.read 1 = xf1 s then .bcUnsupported else .bcSlaveError
  else if s.rx.read 1 ≠ s.frFunc ∨ (s.rx.read 2).toNat ≠ expData s then .funcCountMismatch
  else .ok

/-- VALIDATE_RTU (R151): VAL_PL_LEN gets D on a pass and 0 on any error. -/
def execValidateRtu (_arg : Byte) (s : State) : Host.Outcome State Fault Refusal :=
  let c : ResultCode := validateCode s
  .next ({ s with valPlLen := if c = ResultCode.ok then BitVec.ofNat 8 (expData s) else 0 }.finish c)

/-- The binary32 word at payload offset `k`, most significant byte first on the wire (30_encoding.md R101). -/
def payloadF32 (s : State) (k : Nat) : Word :=
  s.rx.read (3 + k) ++ (s.rx.read (4 + k) ++ (s.rx.read (5 + k) ++ s.rx.read (6 + k)))

/-- The unsigned 16-bit value at payload offset `k`, most significant byte first on the wire (30_encoding.md R101). -/
def payloadU16 (s : State) (k : Nat) : Half := s.rx.read (3 + k) ++ s.rx.read (4 + k)

/-- EXTRACT_F32 (R153). -/
def execExtractF32 (arg : Byte) (s : State) : Host.Outcome State Fault Refusal :=
  if argNat arg + 4 > s.valPlLen.toNat then .next (s.finish .extractRange)
  else .next ({ s with extWord := payloadF32 s (argNat arg) }.finish .ok)

/-- EXTRACT_U16 (R154). -/
def execExtractU16 (arg : Byte) (s : State) : Host.Outcome State Fault Refusal :=
  if argNat arg + 2 > s.valPlLen.toNat then .next (s.finish .extractRange)
  else .next ({ s with extWord := (payloadU16 s (argNat arg)).setWidth 32 }.finish .ok)

/-- One more payload byte in front of those found so far. -/
def prependByte (b : Byte) (x : List Byte × List Byte) : List Byte × List Byte := (b :: x.1, x.2)

/-- The loop of MMK_DECODE after the start marker (R155): the un-stuffed payload and the bytes after the end marker,
or the code of the failure met first. -/
def unstuff : List Byte → Except ResultCode (List Byte × List Byte)
  | [] => .error .mmkNoEnd
  | [_] => .error .mmkNoEnd
  | x :: y :: r =>
    if x ≠ 0x10 then (unstuff (y :: r)).map (prependByte x)
    else if y = 0x10 then (unstuff r).map (prependByte 0x10)
    else if y = 0x04 then .ok ([], r)
    else .error .mmkBadStuff

/-- The checks of MMK_DECODE in the order of R155: the seven payload bytes of the frame, or the code of the first
failure. -/
def mmkParse (frame : List Byte) : Except ResultCode (List Byte) :=
  match frame with
  | a :: b :: body =>
    if a = 0x10 ∧ b = 0x02 then
      match unstuff body with
      | .error c => .error c
      | .ok (out, rest) =>
        if rest ≠ [] then .error .mmkTrailing
        else if out.length ≠ 7 then .error .mmkBadLength
        else if withMmkCrc (out.take 5) ≠ out then .error .mmkCrcMismatch
        else .ok out
    else .error .mmkBadStart
  | _ => .error .mmkBadStart

/-- MMK_DECODE (R155): on success MMK_DEC0 and MMK_DEC1 get the decoded sequence, on any error they keep theirs. -/
def execMmkDecode (_arg : Byte) (s : State) : Host.Outcome State Fault Refusal :=
  match mmkParse (rxFrame s) with
  | .error c => .next (s.finish c)
  | .ok out =>
    let b (i : Nat) : Byte := out.getD i 0
    .next ({ s with
      mmkDec0 := b 3 ++ (b 2 ++ (b 1 ++ b 0))
      mmkDec1 := b 5 ++ (b 6 ++ ((0 : Byte) ++ b 4)) }.finish .ok)

end Sys2Proof.Machine
end

