-- ==== Sys2Proof/Machine/Binary64.lean ====
section
/-! DEFINITION. IEEE 754 binary64 arithmetic, rounded to nearest with ties to even, and the exact widening of
binary32 (spec/00_scope.md R10, 44_sampler.md R171). The definitions are IEEE 754's, which the spec takes from general
knowledge (93_implementation_defined.md G1; log entry 20). -/

namespace Sys2Proof.Machine

/-- A binary64 datum. `fin neg m e` is (-1)^neg · m · 2^e, so the two zeros differ in `neg`. A NaN has no sign and no
payload here: no operation of the sampler can look at them (R171; log entry 9). -/
inductive F64 where
  | nan
  | inf (neg : Bool)
  | fin (neg : Bool) (m : Nat) (e : Int)
  deriving DecidableEq, Repr

/-- The exponent of the least significant bit of a subnormal binary64. -/
def F64.minExp : Int := -1074

/-- The exponent of the least significant bit of the largest binary64. -/
def F64.maxExp : Int := 971

/-- The zeros. -/
def F64.zero (neg : Bool) : F64 := .fin neg 0 F64.minExp

/-- `2 ^ t` for a non-negative exponent, 1 otherwise. -/
def pow2 (t : Int) : Nat := 2 ^ t.toNat

/-- The exponent at which a positive ratio n/d · 2^e has an integer part of 53 bits, or the least exponent if that is
larger. -/
def F64.roundExp (n d : Nat) (e : Int) : Int :=
  let q : Int := e + n.log2 - d.log2 - 52
  let k := n * pow2 (e - q) / (d * pow2 (q - e))
  max (if k < 2 ^ 52 then q - 1 else q) F64.minExp

/-- The integer nearest to num/den, the even one of two equally near. -/
def roundHalfEven (num den : Nat) : Nat :=
  let k := num / den
  let r := num % den
  if den < 2 * r ∨ (2 * r = den ∧ k % 2 = 1) then k + 1 else k

/-- The binary64 nearest to (-1)^neg · n/d · 2^e, ties to even, infinite on overflow. Exact arithmetic up to the one
rounding. -/
def F64.round (neg : Bool) (n d : Nat) (e : Int) : F64 :=
  if n = 0 then F64.zero neg
  else
    let q := F64.roundExp n d e
    let k := roundHalfEven (n * pow2 (e - q)) (d * pow2 (q - e))
    let (k, q) := if k = 2 ^ 53 then (2 ^ 52, q + 1) else (k, q)
    if F64.maxExp < q then .inf neg else .fin neg k q

/-- A signed integer from a sign and a magnitude. -/
def signed (neg : Bool) (m : Nat) : Int := if neg then -(m : Int) else m

/-- The integer `m · 2^(e - g)` with its sign, for `g ≤ e`: a datum counted in units of 2^g. -/
def inUnits (neg : Bool) (m : Nat) (e g : Int) : Int := signed neg (m * pow2 (e - g))

/-- `f64(w)`: the value of a 64-bit pattern (R10). -/
def F64.ofBits (w : DWord) : F64 :=
  let neg := w.getLsbD 63
  let ex := (w.extractLsb' 52 11).toNat
  let frac := (w.extractLsb' 0 52).toNat
  if ex = 2047 then (if frac = 0 then .inf neg else .nan)
  else if ex = 0 then .fin neg frac F64.minExp
  else .fin neg (2 ^ 52 + frac) ((ex : Int) - 1075)

/-- The NaN pattern whose sign and payload are those of `free`, with a non-zero payload (U2): every NaN pattern is
one of these, and each of these is a NaN pattern. -/
def nanPattern (free : DWord) : DWord :=
  let frac : BitVec 52 := free.extractLsb' 0 52
  free.extractLsb' 63 1 ++ ((0x7FF : BitVec 11) ++ (if frac = 0 then (1 : BitVec 52) else frac))

/-- As `nanPattern`, but quiet: fraction bit 51 set (44_sampler.md R181 (4)). -/
def quietNaNPattern (free : DWord) : DWord :=
  free.extractLsb' 63 1 ++ ((0xFFF : BitVec 12) ++ (free.extractLsb' 0 51 : BitVec 51))

/-- `bits64(x)` (R10), for a datum as `F64.ofBits` and `F64.round` make it. A NaN has the pattern given: its sign and
payload are open (R171). -/
def F64.toBits (nanBits : DWord) : F64 → DWord
  | .nan => nanBits
  | .inf neg => bit neg ++ ((0x7FF : BitVec 11) ++ (0 : BitVec 52))
  | .fin neg m e =>
    let ex : Nat := if m < 2 ^ 52 then 0 else (e + 1075).toNat
    bit neg ++ (BitVec.ofNat 11 ex ++ BitVec.ofNat 52 m)

/-- The value of a 32-bit pattern as a binary32, exactly (R10). -/
def F64.ofBits32 (w : Word) : F64 :=
  let neg := w.getLsbD 31
  let ex := (w.extractLsb' 23 8).toNat
  let frac := (w.extractLsb' 0 23).toNat
  if ex = 255 then (if frac = 0 then .inf neg else .nan)
  else if ex = 0 then F64.round neg frac 1 (-149)
  else F64.round neg (2 ^ 23 + frac) 1 ((ex : Int) - 150)

/-- `widen` (R10), as a 64-bit pattern: exact, except that a NaN becomes a quiet NaN of open sign and payload (U3;
log entry 10). -/
def widen (free : DWord) (w : Word) : DWord := (F64.ofBits32 w).toBits (quietNaNPattern free)

/-- The exact binary64 of a natural number below 2^53. -/
def F64.ofNat (n : Nat) : F64 := F64.round false n 1 0

/-- The datum with its sign changed. -/
def F64.neg : F64 → F64
  | .nan => .nan
  | .inf s => .inf (!s)
  | .fin s m e => .fin (!s) m e

/-- `abs`: the datum with its sign cleared (R10). -/
def F64.abs : F64 → F64
  | .nan => .nan
  | .inf _ => .inf false
  | .fin _ m e => .fin false m e

/-- Binary64 addition. An exact zero sum is +0, but for the sum of two negative zeros. -/
def F64.add : F64 → F64 → F64
  | .nan, _ => .nan
  | _, .nan => .nan
  | .inf a, .inf b => if a = b then .inf a else .nan
  | .inf a, .fin _ _ _ => .inf a
  | .fin _ _ _, .inf b => .inf b
  | .fin a m e, .fin b n f =>
    let g := min e f
    let x := inUnits a m e g + inUnits b n f g
    if x = 0 then F64.zero (a && b) else F64.round (decide (x < 0)) x.natAbs 1 g

/-- Binary64 subtraction. -/
def F64.sub (x y : F64) : F64 := x.add y.neg

/-- Binary64 multiplication. -/
def F64.mul : F64 → F64 → F64
  | .nan, _ => .nan
  | _, .nan => .nan
  | .inf a, .inf b => .inf (a ^^ b)
  | .inf a, .fin b n _ => if n = 0 then .nan else .inf (a ^^ b)
  | .fin a m _, .inf b => if m = 0 then .nan else .inf (a ^^ b)
  | .fin a m e, .fin b n f => F64.round (a ^^ b) (m * n) 1 (e + f)

/-- Binary64 division. -/
def F64.div : F64 → F64 → F64
  | .nan, _ => .nan
  | _, .nan => .nan
  | .inf _, .inf _ => .nan
  | .inf a, .fin b _ _ => .inf (a ^^ b)
  | .fin a _ _, .inf b => F64.zero (a ^^ b)
  | .fin a m e, .fin b n f =>
    if n = 0 then (if m = 0 then .nan else .inf (a ^^ b)) else F64.round (a ^^ b) m n (e - f)

/-- The largest `r` with `r² ≤ n` among those that agree with `r` above its low `bits` bits. -/
def sqrtBits (n : Nat) : Nat → Nat → Nat
  | 0, r => r
  | k + 1, r => let r' := r + 2 ^ k; if r' * r' ≤ n then sqrtBits n k r' else sqrtBits n k r

/-- The integer square root. -/
def natSqrt (n : Nat) : Nat := sqrtBits n (n.log2 / 2 + 1) 0

/-- Binary64 square root. The integer root of m · 2^e scaled by 2^120 has more than 60 bits; one more bit below it says
whether it was exact, so the one rounding that follows is that of the exact root. -/
def F64.sqrt : F64 → F64
  | .nan => .nan
  | .inf s => if s then .nan else .inf false
  | .fin s m e =>
    if m = 0 then .fin s m e
    else if s then .nan
    else
      let odd := e % 2
      let n := m * pow2 odd * 2 ^ 120
      let r := natSqrt n
      F64.round false (2 * r + (if r * r = n then 0 else 1)) 1 ((e - odd) / 2 - 61)

/-- The ordered comparison `a > b`, false when either is NaN (R10). -/
def F64.gt : F64 → F64 → Bool
  | .nan, _ => false
  | _, .nan => false
  | .inf a, .inf b => !a && b
  | .inf a, .fin _ _ _ => !a
  | .fin _ _ _, .inf b => b
  | .fin a m e, .fin b n f => let g := min e f; decide (inUnits b n f g < inUnits a m e g)

/-- The sum from +0.0 in index order (44_sampler.md R172). -/
def F64.sum (xs : List F64) : F64 := xs.foldl F64.add (F64.zero false)

end Sys2Proof.Machine
end

