-- ==== Sys2Proof/Machine/Sampler.lean ====
section
/-! DEFINITION. The sampler unit (spec/44_sampler.md). -/

namespace Sys2Proof.Machine

/-- The mean of a batch (R172): the sum in index order, divided by N. -/
def mean (xs : List F64) : F64 := (F64.sum xs).div (F64.ofNat xs.length)

/-- The square of a deviation, as one multiply (R173). -/
def squaredDev (m x : F64) : F64 := (x.sub m).mul (x.sub m)

/-- The standard deviation of a batch with mean `m` (R173): N - 1 denominator. -/
def stdDev (xs : List F64) (m : F64) : F64 :=
  ((F64.sum (xs.map (squaredDev m))).div (F64.ofNat (xs.length - 1))).sqrt

/-- The outlier predicate (R174): some member's magnitude exceeds mean · MAXDEV. -/
def rejected (xs : List F64) (m maxdev : F64) : Bool :=
  let t := m.mul maxdev
  xs.any fun x => x.abs.gt t

/-- The first `n` slots of a sample store, as binary64 values (R176). -/
def batch (b : Store) (n : Nat) : List F64 := (List.range n).map fun i => F64.ofBits (b.slot i)

/-- The pattern of a result: exact to the bit unless NaN, and then a NaN of open sign and payload (R171, U2), the
`k`-th draw (log entry 9). -/
def resultBits (k : Nat) (x : F64) : DWord := x.toBits (nanPattern (Config.freeNaNBits k))

/-- Storing one sample (R175): both values widened and put at slot `c`; the sample's kind becomes the active one. Draws
two free values, used where a value is a NaN (log entry 10). -/
def State.storeSample (s : State) (k : ChannelKind) (c : Nat) : State :=
  { s with
    kind := k
    kindValid := true
    bufP := s.bufP.put c (widen (Config.freeNaNBits s.draws) s.smpPrim)
    bufT := s.bufT.put c (widen (Config.freeNaNBits (s.draws + 1)) s.smpTan)
    draws := s.draws + 2 }

/-- An accepted fill of `n` samples of kind `k` (R178). Draws four free values, used where a result is a NaN. -/
def State.acceptFill (s : State) (n : Nat) (k : ChannelKind) (m : F64) : State :=
  let p := batch s.bufP n
  let t := batch s.bufT n
  let tm := mean t
  { s with
    estMean := resultBits s.draws m
    estSd := resultBits (s.draws + 1) (stdDev p m)
    estTmean := resultBits (s.draws + 2) tm
    estTsd := resultBits (s.draws + 3) (stdDev t tm)
    estCount := BitVec.ofNat 8 n
    estKind := k
    estValid := true
    lastFillRej := false
    accCnt := s.accCnt + 1
    draws := s.draws + 4 }

/-- A rejected fill (R179): no estimate is written. -/
def State.rejectFill (s : State) : State :=
  { s with lastFillRej := true, rejCnt := s.rejCnt + 1 }

/-- `fill(N, k)` (R176), with the result code of R178 or R179. -/
def State.fill (s : State) (n : Nat) (k : ChannelKind) : State :=
  let p := batch s.bufP n
  let m := mean p
  if rejected p m (F64.ofBits (maxdevBits s)) then s.rejectFill.finish .fillRejected
  else (s.acceptFill n k m).finish .fillAccepted

/-- The slot the next sample of kind `k` goes to: 0 after a kind switch, else the cursor (R175). -/
def sampleSlot (s : State) (k : ChannelKind) : Nat :=
  if s.kindValid = true ∧ s.kind ≠ k then 0 else s.cursor.toNat

/-- SMP_ADD (R175). -/
def execSmpAdd (arg : Byte) (s : State) : Host.Outcome State Fault Refusal :=
  if argHigh arg ≠ 0 then .next (s.finish .badArg)
  else
    let k := argKind arg
    let c := sampleSlot s k
    let s' := s.storeSample k c
    if c + 1 < s.smpN.toNat then .next ({ s' with cursor := BitVec.ofNat 8 (c + 1) }.finish .ok)
    else .next ({ s' with cursor := 0 }.fill s.smpN.toNat k)

/-- SMP_CLEAR (R180): discards the batch and forgets the kind; the estimates, flags and counters stay. -/
def execSmpClear (_arg : Byte) (s : State) : Host.Outcome State Fault Refusal :=
  .next ({ s with cursor := 0, kindValid := false, kind := .r }.finish .ok)

end Sys2Proof.Machine
end

