-- ==== Sys2Proof/Machine/Dispatch.lean ====
section
/-! DEFINITION. The meaning of every command of spec/opcode_table.json. -/

namespace Sys2Proof.Machine

def exec (i : Instr) (s : State) : Host.Outcome State Fault Refusal :=
  match i with
  | .nop arg => Sys2Proof.Machine.execNop arg s
  | .crcStart arg => Sys2Proof.Machine.execCrcStart arg s
  | .crcFeed arg => Sys2Proof.Machine.execCrcFeed arg s
  | .crcLoadProfile arg => Sys2Proof.Machine.execCrcLoadProfile arg s
  | .crcComputeRx arg => Sys2Proof.Machine.execCrcComputeRx arg s
  | .buildRtuRead arg => Sys2Proof.Machine.execBuildRtuRead arg s
  | .buildRtuWrite arg => Sys2Proof.Machine.execBuildRtuWrite arg s
  | .buildMmk arg => Sys2Proof.Machine.execBuildMmk arg s
  | .validateRtu arg => Sys2Proof.Machine.execValidateRtu arg s
  | .extractF32 arg => Sys2Proof.Machine.execExtractF32 arg s
  | .extractU16 arg => Sys2Proof.Machine.execExtractU16 arg s
  | .mmkDecode arg => Sys2Proof.Machine.execMmkDecode arg s
  | .smpAdd arg => Sys2Proof.Machine.execSmpAdd arg s
  | .smpClear arg => Sys2Proof.Machine.execSmpClear arg s
  | .clearStatus arg => Sys2Proof.Machine.execClearStatus arg s
  | .softReset arg => Sys2Proof.Machine.execSoftReset arg s

end Sys2Proof.Machine
end

