-- ==== Sys2Proof/Machine/RegisterMap.lean ====
section
/-! DEFINITION. The register map of spec/10_state.md section 2: the offsets, their access, what a read returns and
what a write stores (R22 to R51, R54). -/

namespace Sys2Proof.Machine

/-- The named registers of the map, in the order of their offsets. -/
inductive Reg where
  | cmd | status
  | crcCfg | crcPoly | crcInit | crcXorout | crcState | crcResult
  | frSlave | frFunc | frStart | frCount | frBpr | frValue | frXfunc | frExpData | frExpTotal
  | txLen | rxLen | valPlLen | extWord | mmkDec0 | mmkDec1
  | smpN | smpMaxdevLo | smpMaxdevHi | smpPrim | smpTan | smpStat | smpAccCnt | smpRejCnt
  | estMeanLo | estMeanHi | estSdLo | estSdHi | estTmeanLo | estTmeanHi | estTsdLo | estTsdHi | estInfo
  deriving DecidableEq, Repr

/-- The offset of a register. -/
def Reg.offset : Reg → Offset
  | .cmd => 0x000
  | .status => 0x004
  | .crcCfg => 0x010
  | .crcPoly => 0x014
  | .crcInit => 0x018
  | .crcXorout => 0x01C
  | .crcState => 0x020
  | .crcResult => 0x024
  | .frSlave => 0x040
  | .frFunc => 0x044
  | .frStart => 0x048
  | .frCount => 0x04C
  | .frBpr => 0x050
  | .frValue => 0x054
  | .frXfunc => 0x058
  | .frExpData => 0x05C
  | .frExpTotal => 0x060
  | .txLen => 0x064
  | .rxLen => 0x068
  | .valPlLen => 0x06C
  | .extWord => 0x070
  | .mmkDec0 => 0x074
  | .mmkDec1 => 0x078
  | .smpN => 0x080
  | .smpMaxdevLo => 0x084
  | .smpMaxdevHi => 0x088
  | .smpPrim => 0x08C
  | .smpTan => 0x090
  | .smpStat => 0x094
  | .smpAccCnt => 0x098
  | .smpRejCnt => 0x09C
  | .estMeanLo => 0x0A0
  | .estMeanHi => 0x0A4
  | .estSdLo => 0x0A8
  | .estSdHi => 0x0AC
  | .estTmeanLo => 0x0B0
  | .estTmeanHi => 0x0B4
  | .estTsdLo => 0x0B8
  | .estTsdHi => 0x0BC
  | .estInfo => 0x0C0

/-- Every register. -/
def Reg.all : List Reg :=
  [.cmd, .status, .crcCfg, .crcPoly, .crcInit, .crcXorout, .crcState, .crcResult,
   .frSlave, .frFunc, .frStart, .frCount, .frBpr, .frValue, .frXfunc, .frExpData, .frExpTotal,
   .txLen, .rxLen, .valPlLen, .extWord, .mmkDec0, .mmkDec1,
   .smpN, .smpMaxdevLo, .smpMaxdevHi, .smpPrim, .smpTan, .smpStat, .smpAccCnt, .smpRejCnt,
   .estMeanLo, .estMeanHi, .estSdLo, .estSdHi, .estTmeanLo, .estTmeanHi, .estTsdLo, .estTsdHi, .estInfo]

/-- The access column of the map. -/
inductive Access where
  | readWrite
  | readOnly
  | writeOnly
  deriving DecidableEq, Repr

/-- The access a register allows. -/
def Reg.access : Reg → Access
  | .cmd => .writeOnly
  | .crcCfg | .crcPoly | .crcInit | .crcXorout => .readWrite
  | .frSlave | .frFunc | .frStart | .frCount | .frBpr | .frValue | .frXfunc | .rxLen => .readWrite
  | .smpN | .smpMaxdevLo | .smpMaxdevHi | .smpPrim | .smpTan => .readWrite
  | .status | .crcState | .crcResult | .frExpData | .frExpTotal | .txLen | .valPlLen | .extWord | .mmkDec0
  | .mmkDec1 | .smpStat | .smpAccCnt | .smpRejCnt | .estMeanLo | .estMeanHi | .estSdLo | .estSdHi | .estTmeanLo
  | .estTmeanHi | .estTsdLo | .estTsdHi | .estInfo => .readOnly

/-- What stands at an aligned offset of the window. -/
inductive Slot where
  /-- A named register. -/
  | reg (r : Reg)
  /-- Word `k` of the TX window (R44). -/
  | txWord (k : Nat)
  /-- Word `k` of the RX window (R45). -/
  | rxWord (k : Nat)
  /-- A reserved offset (R54). -/
  | reserved
  deriving DecidableEq, Repr

/-- What an aligned offset selects (the map of section 2). -/
def slotAt (o : Offset) : Slot :=
  if 0x100 ≤ o.toNat ∧ o.toNat < 0x114 then .txWord ((o.toNat - 0x100) / 4)
  else if 0x200 ≤ o.toNat ∧ o.toNat < 0x300 then .rxWord ((o.toNat - 0x200) / 4)
  else match Reg.all.find? fun r => decide (r.offset = o) with
    | some r => .reg r
    | none => .reserved

/-- The low half of a 64-bit register pair (R51). -/
def loWord (x : DWord) : Word := x.extractLsb' 0 32

/-- The high half of a 64-bit register pair (R51). -/
def hiWord (x : DWord) : Word := x.extractLsb' 32 32

/-- What a read of a register returns (R22 to R51). -/
def readReg (r : Reg) (s : State) : Word :=
  match r with
  | .cmd => 0
  | .status => statusWord s
  | .crcCfg => s.crcCfg.setWidth 32
  | .crcPoly => s.crcPoly.setWidth 32
  | .crcInit => s.crcInit.setWidth 32
  | .crcXorout => s.crcXorout.setWidth 32
  | .crcState => s.crcState.setWidth 32
  | .crcResult => (crcResult s).setWidth 32
  | .frSlave => s.frSlave.setWidth 32
  | .frFunc => s.frFunc.setWidth 32
  | .frStart => s.frStart.setWidth 32
  | .frCount => s.frCount.setWidth 32
  | .frBpr => s.frBpr.setWidth 32
  | .frValue => s.frValue.setWidth 32
  | .frXfunc => s.frXfunc.setWidth 32
  | .frExpData => BitVec.ofNat 32 (expData s)
  | .frExpTotal => BitVec.ofNat 32 (expTotal s)
  | .txLen => s.txLen.setWidth 32
  | .rxLen => s.rxLen.setWidth 32
  | .valPlLen => s.valPlLen.setWidth 32
  | .extWord => s.extWord
  | .mmkDec0 => s.mmkDec0
  | .mmkDec1 => s.mmkDec1
  | .smpN => s.smpN.setWidth 32
  | .smpMaxdevLo => s.smpMaxdevLo
  | .smpMaxdevHi => s.smpMaxdevHi
  | .smpPrim => s.smpPrim
  | .smpTan => s.smpTan
  | .smpStat => smpStatWord s
  | .smpAccCnt => s.accCnt
  | .smpRejCnt => s.rejCnt
  | .estMeanLo => loWord s.estMean
  | .estMeanHi => hiWord s.estMean
  | .estSdLo => loWord s.estSd
  | .estSdHi => hiWord s.estSd
  | .estTmeanLo => loWord s.estTmean
  | .estTmeanHi => hiWord s.estTmean
  | .estTsdLo => loWord s.estTsd
  | .estTsdHi => hiWord s.estTsd
  | .estInfo => estInfoWord s

/-- The value RX_LEN stores: min(v, 256) (R40). -/
def clampRxLen (v : Word) : BitVec 9 := BitVec.ofNat 9 (min v.toNat Config.rxMax)

/-- The value SMP_N stores: 2 below 2, 255 above 255 (R46). -/
def clampSmpN (v : Word) : Byte := BitVec.ofNat 8 (max 2 (min v.toNat Config.nMax))

/-- What a write of a register stores. A write of SMP_N also empties the batch (R46); a write of a read-only register
is ignored (R54). A write of CMD is not here: it runs a command (R22). -/
def writeReg (r : Reg) (v : Word) (s : State) : State :=
  match r with
  | .crcCfg => { s with crcCfg := v.setWidth 4 }
  | .crcPoly => { s with crcPoly := v.setWidth 16 }
  | .crcInit => { s with crcInit := v.setWidth 16 }
  | .crcXorout => { s with crcXorout := v.setWidth 16 }
  | .frSlave => { s with frSlave := v.setWidth 8 }
  | .frFunc => { s with frFunc := v.setWidth 8 }
  | .frStart => { s with frStart := v.setWidth 16 }
  | .frCount => { s with frCount := v.setWidth 16 }
  | .frBpr => { s with frBpr := v.setWidth 8 }
  | .frValue => { s with frValue := v.setWidth 16 }
  | .frXfunc => { s with frXfunc := v.setWidth 16 }
  | .rxLen => { s with rxLen := clampRxLen v }
  | .smpN => { s with smpN := clampSmpN v, cursor := 0 }
  | .smpMaxdevLo => { s with smpMaxdevLo := v }
  | .smpMaxdevHi => { s with smpMaxdevHi := v }
  | .smpPrim => { s with smpPrim := v }
  | .smpTan => { s with smpTan := v }
  | .cmd | .status | .crcState | .crcResult | .frExpData | .frExpTotal | .txLen | .valPlLen | .extWord | .mmkDec0
  | .mmkDec1 | .smpStat | .smpAccCnt | .smpRejCnt | .estMeanLo | .estMeanHi | .estSdLo | .estSdHi | .estTmeanLo
  | .estTmeanHi | .estTsdLo | .estTsdHi | .estInfo => s

/-- Byte `i` as the TX window shows it: TX[18] and TX[19] do not exist and read as 0 (R44). -/
def txWindowByte (s : State) (i : Nat) : Byte := if i < Config.txMax then s.tx.read i else 0

/-- What a 32-bit read at an aligned offset returns. -/
def readAt (o : Offset) (s : State) : Word :=
  match slotAt o with
  | .reg r => readReg r s
  | .txWord k => packWord (txWindowByte s) k
  | .rxWord k => packWord s.rx.read k
  | .reserved => 0

/-- `BASE`, aligned to 4096 by its form (20_memory.md R70, U4; log entry 12). -/
def busBase : Nat := Config.window * Config.basePage

/-- The bus address of an offset of the window (20_memory.md R70). -/
def busAddress (o : Offset) : Nat := busBase + o.toNat

/-- The offset a bus address selects, if it lies in the window (20_memory.md R70). -/
def offsetOf (a : Nat) : Option Offset :=
  if busBase ≤ a ∧ a < busBase + Config.window then some (BitVec.ofNat 12 (a - busBase)) else none

end Sys2Proof.Machine
end

