-- ==== Sys2Proof/Machine/Bus.lean ====
section
/-! DEFINITION. Serving one bus event: a read, a write, a command, a move of the reset line (spec/20_memory.md R70 to
R75, 10_state.md R22, 70_reset_and_hazards.md R220). -/

namespace Sys2Proof.Machine

/-- A write of word `w` to CMD: it runs the command the word selects to completion (10_state.md R22), and an illegal
word ends with ILLEGAL_CMD (30_encoding.md R92, R94). -/
def runWord (w : Word) (s : State) : Host.Outcome State Fault Refusal :=
  match decode w with
  | .ok i => exec i s
  | .error _ => .next s.illegalCommand

/-- A 32-bit write at an aligned offset. The TX window is read-only and reserved offsets ignore writes (10_state.md
R44, R54). -/
def serveWrite (o : Offset) (v : Word) (s : State) : Host.Outcome State Fault Refusal :=
  match slotAt o with
  | .reg .cmd => runWord v s
  | .reg r => .next (writeReg r v s)
  | .rxWord k => .next { s with rx := s.rx.writeWord k v }
  | .txWord _ => .next s
  | .reserved => .next s

/-- The reset line (70_reset_and_hazards.md R220): when it is deasserted, every piece of state holds its reset value;
a line that does not move changes nothing (log entry 6). -/
def moveReset (asserted : Bool) (s : State) : State :=
  if s.resetAsserted = true ∧ asserted = false then { s.resetEngine with resetAsserted := false }
  else { s with resetAsserted := asserted }

/-- Serving one bus event. An access while reset is asserted is refused (R220, log entry 5); an access of another
width or alignment is a bus error (20_memory.md R71, log entry 4); the others run to completion (R74). -/
def serve (e : BusEvent) (s : State) : Host.Outcome State Fault Refusal :=
  match e with
  | .resetLine asserted => .next (moveReset asserted s)
  | .read o width =>
    if s.resetAsserted then .refused .accessInReset
    else if accessOk o width then .next { s with answer := .data (readAt o s) }
    else .fault .busError
  | .write o width v =>
    if s.resetAsserted then .refused .accessInReset
    else if accessOk o width then serveWrite o v { s with answer := .written }
    else .fault .busError

/-- Serving the next pending event; with none pending the engine keeps its state (60_exceptions.md R212, log
entry 2). -/
def serveNext (s : State) : Host.Outcome State Fault Refusal :=
  match s.pending with
  | [] => .next s
  | e :: rest => serve e { s with pending := rest }

/-- The state in which the next event is a write of word `w` to CMD, with the reset line not asserted. -/
def State.offerCommand (s : State) (w : Word) : State :=
  { s with pending := .write Reg.cmd.offset .w32 w :: s.pending, resetAsserted := false }

end Sys2Proof.Machine
end

