-- ==== Sys2Proof/Machine/Step.lean ====
section
/-! DEFINITION. One step of the machine: it serves the next pending bus event (spec/20_memory.md R74). -/

namespace Sys2Proof.Machine

/-- One step. -/
def step (s : State) : Host.Outcome State Fault Refusal := serveNext s

/-- `s` with the word of an opcode-table row as the next write to CMD. The engine fetches nothing (20_memory.md R78):
a command is the word of one CMD write, so this stands for the host issuing that write (log entry 1). -/
def State.withFetchWord (s : State) (nbits w : Nat) : State := s.offerCommand (BitVec.ofNat 32 (w % 2 ^ nbits))

end Sys2Proof.Machine
end

