-- ==== Sys2Proof/Machine/HostAssembly.lean ====
section
/-! DEFINITION. The host assembly: each statement as the bus events it stands for (spec/30_encoding.md R102, R103). -/

namespace Sys2Proof.Machine

/-- `RD name`. -/
def asmRead (r : Reg) : List BusEvent := [.read r.offset .w32]

/-- `WR name, v`. -/
def asmWrite (r : Reg) (v : Word) : List BusEvent := [.write r.offset .w32 v]

/-- `CMD M, a`: writes the command's word to CMD (R103). -/
def asmCmd (i : Instr) : List BusEvent := asmWrite .cmd (encode i)

/-- The offset of `RXW[k]`, 0x200 + 4k (R102). -/
def rxWindowOffset (k : Nat) : Offset := BitVec.ofNat 12 (0x200 + 4 * k)

/-- The offset of `TXW[k]`, 0x100 + 4k (R102). -/
def txWindowOffset (k : Nat) : Offset := BitVec.ofNat 12 (0x100 + 4 * k)

/-- `RXLOAD b0, ..., b(n-1)`, n at most 256: one write for each word, missing bytes 0, then RX_LEN (R103; log
entry 21). -/
def asmRxload (bs : List Byte) : List BusEvent :=
  ((List.range ((bs.length + 3) / 4)).map fun k =>
    .write (rxWindowOffset k) .w32 (packWord (fun i => bs.getD i 0) k))
  ++ asmWrite .rxLen (BitVec.ofNat 32 bs.length)

/-- `WR64 SMP_MAXDEV, v`: the low half, then the high half (R103). -/
def asmWrite64Maxdev (v : DWord) : List BusEvent :=
  asmWrite .smpMaxdevLo (loWord v) ++ asmWrite .smpMaxdevHi (hiWord v)

end Sys2Proof.Machine
end

