-- ==== Sys2Proof/Safety.lean ====
section
/-! DEFINITION. The terms in which claims speak of the machine: its invariant, safe events, states a host cannot tell
apart, a run of commands, and the reference forms of the CRC step (spec/41_crc.md R111) and of a correctly rounded
result (00_scope.md R10). Nothing here is part of the machine. -/

namespace Sys2Proof.Machine

/-- What every reachable state satisfies. -/
structure State.Inv (s : State) : Prop where
  /-- TX is in canonical form. -/
  tx_wf : s.tx.wf = true
  /-- TX has 18 bytes (10_state.md R44). -/
  tx_below : s.tx.below Config.txMax = true
  /-- TX_LEN is 0, 8, or 11 to 18 (R39). -/
  tx_len : s.txLen.toNat = 0 ∨ s.txLen.toNat = 8 ∨ (11 ≤ s.txLen.toNat ∧ s.txLen.toNat ≤ Config.txMax)
  /-- The bytes of TX past the frame are 0x00 (42_framer.md R130). -/
  tx_tail : ∀ i, s.txLen.toNat ≤ i → s.tx.read i = 0x00
  /-- RX is in canonical form. -/
  rx_wf : s.rx.wf = true
  /-- RX has 256 bytes (R45). -/
  rx_below : s.rx.below Config.rxMax = true
  /-- RX_LEN is at most 256 (R40). -/
  rx_len : s.rxLen.toNat ≤ Config.rxMax
  /-- VAL_PL_LEN is at most 251 (R41). -/
  val_len : s.valPlLen.toNat ≤ 251
  /-- MMK_DEC1 bits [15:8] are 0 (R43). -/
  dec1_reserved : byteOf s.mmkDec1 1 = 0
  /-- SMP_N is 2 to 255 (R46). -/
  smp_n : 2 ≤ s.smpN.toNat
  /-- CURSOR is 0 to N - 1 (R49, 44_sampler.md R181 (2)). -/
  cursor_lt : s.cursor.toNat < s.smpN.toNat
  /-- Without a valid kind the batch is empty and KIND is 0 (R175, R180). -/
  no_kind : s.kindValid = false → s.kind = .r ∧ s.cursor = 0
  /-- The EST registers are written by an accepted fill only (R51). -/
  no_estimate : s.estValid = false → s.estMean = 0 ∧ s.estSd = 0 ∧ s.estTmean = 0 ∧ s.estTsd = 0 ∧
    s.estCount = 0 ∧ s.estKind = .r ∧ s.accCnt = 0
  /-- The sample count of an estimate is a legal capacity (R178). -/
  est_count : s.estValid = true → 2 ≤ s.estCount.toNat
  /-- After a command that ended with an error, ERR is set (60_exceptions.md R202). -/
  err_sticky : isError s.lastResult = true → s.err = true

/-- The next pending event, if any, is one the engine serves: the reset line moves, or it is not asserted and the
access is 32 bits wide and aligned (20_memory.md R71, 70_reset_and_hazards.md R220). -/
def State.Serves (s : State) : Prop :=
  match s.pending with
  | [] => True
  | .resetLine _ :: _ => True
  | e :: _ => s.resetAsserted = false ∧ e.WellFormed

/-- `s` with event `e` next and the reset line not asserted. -/
def State.facing (s : State) (e : BusEvent) (rest : List BusEvent) : State :=
  { s with pending := e :: rest, resetAsserted := false }

/-- `s` after its next event was served with answer `a` and nothing else changed. -/
def State.served (s : State) (a : BusAnswer) (rest : List BusEvent) : State :=
  { s with pending := rest, resetAsserted := false, answer := a }

/-- Two states that differ at most in sample slots at or above the cursor, which no access can reach (10_state.md R52,
R53). -/
def State.Agree (s t : State) : Prop :=
  t = { s with bufP := t.bufP, bufT := t.bufT } ∧
  ∀ i, i < s.cursor.toNat → s.bufP.slot i = t.bufP.slot i ∧ s.bufT.slot i = t.bufT.slot i

/-- Two outcomes with the same kind and, for next states, related states. -/
def outcomesAgree (x y : Host.Outcome State Fault Refusal) : Prop :=
  match x, y with
  | .next s, .next t => s.Agree t
  | .fault f, .fault g => f = g
  | .refused r, .refused q => r = q
  | _, _ => False

/-- The word {RSV = 0, ARG = arg, OP = op} (30_encoding.md R90). -/
def commandWord (op arg : Byte) : Word := (0 : Half) ++ (arg ++ op : Half)

/-- Running commands one after the other; none if one of them does not end with a next state. -/
def execAll : List Instr → State → Option State
  | [], s => some s
  | i :: is, s =>
    match exec i s with
    | .next t => execAll is t
    | .fault _ => none
    | .refused _ => none

/-- W of a CRC configuration (41_crc.md R111). -/
def crcWidth (p : CrcProfile) : Nat := if p.width16 then 16 else 8

/-- The reversal `rev_n` on numbers, by its definition: bit i of the result is bit n-1-i of v (00_scope.md R8). -/
def revNat (n v : Nat) : Nat := ((List.range n).map fun i => if v.testBit (n - 1 - i) then 2 ^ i else 0).sum

/-- One MSB-end shift of a W-bit register on numbers (41_crc.md R111, ALG = 0). -/
def msbShiftNat (w poly s : Nat) : Nat :=
  if s.testBit (w - 1) then ((2 * s) ^^^ poly) % 2 ^ w else (2 * s) % 2 ^ w

/-- One LSB-end shift on numbers (41_crc.md R111, ALG = 1). -/
def lsbShiftNat (poly s : Nat) : Nat :=
  if s % 2 = 1 then (s / 2) ^^^ poly else s / 2

/-- `crc_step` of 41_crc.md R111 on numbers below 2^W. -/
def crcStepNat (p : CrcProfile) (s b : Nat) : Nat :=
  let w := crcWidth p
  let poly := p.poly.toNat % 2 ^ w
  let b' := if p.refin then revNat 8 b else b
  if p.alg then repeatFn (lsbShiftNat poly) 8 ((s % 2 ^ w) ^^^ b')
  else repeatFn (msbShiftNat w poly) 8 ((s % 2 ^ w) ^^^ (b' * 2 ^ (w - 8)))

/-- `crc_out` of 10_state.md R29 on numbers: masked to W bits, reversed if REFOUT, then xor-out. -/
def crcOutNat (p : CrcProfile) (s : Nat) : Nat :=
  let w := crcWidth p
  ((if p.refout then revNat w (s % 2 ^ w) else s % 2 ^ w) ^^^ p.xorout.toNat) % 2 ^ w

/-- The sign bit of a datum, a NaN apart. -/
def F64.sign : F64 → Bool
  | .nan => false
  | .inf neg => neg
  | .fin neg _ _ => neg

/-- The real number a finite datum stands for. -/
def F64.Denotes (d : F64) (x : ℝ) : Prop :=
  match d with
  | .fin neg m e => x = (signed neg m : ℝ) * (2 : ℝ) ^ e
  | .inf _ => False
  | .nan => False

/-- `d` is `x` rounded to binary64, to nearest with ties to even (00_scope.md R10): infinite from half a unit above the
largest finite value on; otherwise a datum of the format with the sign of `x`, no magnitude of the format nearer, and
an even significand if another one is as near. -/
def F64.IsRoundingOf (d : F64) (x : ℝ) : Prop :=
  match d with
  | .nan => False
  | .inf neg => (2 : ℝ) ^ (1024 : ℤ) - (2 : ℝ) ^ (970 : ℤ) ≤ |x| ∧ (neg = true ↔ x < 0)
  | .fin neg m e =>
    |x| < (2 : ℝ) ^ (1024 : ℤ) - (2 : ℝ) ^ (970 : ℤ) ∧
    m < 2 ^ 53 ∧ F64.minExp ≤ e ∧ e ≤ F64.maxExp ∧ (m < 2 ^ 52 → e = F64.minExp) ∧
    (0 < x → neg = false) ∧ (x < 0 → neg = true) ∧
    ∀ (k : Nat) (f : Int), k < 2 ^ 53 → F64.minExp ≤ f → f ≤ F64.maxExp →
      |(|x| - m * (2 : ℝ) ^ e)| ≤ |(|x| - k * (2 : ℝ) ^ f)| ∧
      (|(|x| - m * (2 : ℝ) ^ e)| = |(|x| - k * (2 : ℝ) ^ f)| → (k : ℝ) * (2 : ℝ) ^ f ≠ m * (2 : ℝ) ^ e → m % 2 = 0)

end Sys2Proof.Machine
end

