-- ==== Sys2Proof/Laws/Binary64.lean ====
section
/-! SUPPORT. NaN and the sign of a result through the binary64 operations of the sampler, and how a batch is folded
(spec/44_sampler.md R171 to R173, R177 (5)). -/

namespace Sys2Proof.Machine

@[simp] theorem F64.nan_add (x : F64) : F64.nan.add x = .nan := by cases x <;> rfl
@[simp] theorem F64.add_nan (x : F64) : x.add .nan = .nan := by cases x <;> rfl
@[simp] theorem F64.nan_mul (x : F64) : F64.nan.mul x = .nan := by cases x <;> rfl
@[simp] theorem F64.mul_nan (x : F64) : x.mul .nan = .nan := by cases x <;> rfl
@[simp] theorem F64.nan_div (x : F64) : F64.nan.div x = .nan := by cases x <;> rfl
@[simp] theorem F64.div_nan (x : F64) : x.div .nan = .nan := by cases x <;> rfl
@[simp] theorem F64.neg_nan : F64.nan.neg = .nan := rfl
@[simp] theorem F64.abs_nan : F64.nan.abs = .nan := rfl
@[simp] theorem F64.sqrt_nan : F64.nan.sqrt = .nan := rfl
@[simp] theorem F64.nan_sub (x : F64) : F64.nan.sub x = .nan := by simp [F64.sub]
@[simp] theorem F64.sub_nan (x : F64) : x.sub .nan = .nan := by simp [F64.sub]
@[simp] theorem F64.nan_gt (x : F64) : F64.nan.gt x = false := by cases x <;> rfl
@[simp] theorem F64.gt_nan (x : F64) : x.gt .nan = false := by cases x <;> rfl

/-- A sum that has met a NaN stays NaN. -/
theorem F64.foldl_add_nan (xs : List F64) : xs.foldl F64.add .nan = .nan := by
  induction xs with
  | nil => rfl
  | cons x xs ih => simpa using ih

/-! The sign of a result -/

@[simp] theorem F64.sign_inf (neg : Bool) : (F64.inf neg).sign = neg := rfl
@[simp] theorem F64.sign_fin (neg : Bool) (m : Nat) (e : Int) : (F64.fin neg m e).sign = neg := rfl
@[simp] theorem F64.sign_zero (neg : Bool) : (F64.zero neg).sign = neg := rfl

/-- Rounding keeps the sign, to a zero and to an infinity as well. -/
@[simp] theorem F64.sign_round (neg : Bool) (n d : Nat) (e : Int) : (F64.round neg n d e).sign = neg := by
  unfold F64.round
  split
  · rfl
  · dsimp only
    split <;> dsimp only <;> split <;> rfl

/-! A batch, folded -/

theorem F64.sum_map (f : F64 → F64) (xs : List F64) :
    F64.sum (xs.map f) = xs.foldl (fun a x => a.add (f x)) (F64.zero false) := by
  rw [F64.sum, List.foldl_map]

/-- The outlier predicate as an existence (R174). -/
theorem rejected_iff (xs : List F64) (m maxdev : F64) :
    rejected xs m maxdev = true ↔ ∃ x ∈ xs, x.abs.gt (m.mul maxdev) = true := by
  simp [rejected, List.any_eq_true]

@[simp] theorem length_batch (b : Store) (n : Nat) : (batch b n).length = n := by simp [batch]

end Sys2Proof.Machine
end

