-- ==== Sys2Proof/Laws/Crc.lean ====
section
/-! SUPPORT. The CRC state over a byte sequence, and the width of what a step leaves (spec/41_crc.md R111, R115). -/

namespace Sys2Proof.Machine

@[simp] theorem CrcProfile.feed_nil (p : CrcProfile) (s : Half) : p.feed s [] = s := rfl

@[simp] theorem CrcProfile.feed_cons (p : CrcProfile) (s : Half) (b : Byte) (d : List Byte) :
    p.feed s (b :: d) = p.feed (p.step s b) d := rfl

theorem CrcProfile.feed_append (p : CrcProfile) (s : Half) (d e : List Byte) :
    p.feed s (d ++ e) = p.feed (p.feed s d) e := List.foldl_append

/-- A property that holds after one application of `f` holds after any positive number of them. -/
theorem repeatFn_of_each {α : Type} {f : α → α} {P : α → Prop} (h : ∀ x, P x → P (f x)) :
    ∀ (n : Nat) {x : α}, P x → P (repeatFn f n x)
  | 0, _, hx => hx
  | n + 1, _, hx => repeatFn_of_each h n (h _ hx)

/-- The fixed profiles drop nothing at W = 16 and apply no output processing. -/
theorem rtuProfile_out (s : Half) : rtuProfile.out s = s := by
  apply BitVec.eq_of_getLsbD_eq
  intro i hi
  simp only [CrcProfile.out, CrcProfile.mask, rtuProfile, if_true, Bool.false_eq_true, if_false]
  rw [show (0xFFFF : Half) = BitVec.allOnes 16 from rfl, BitVec.and_allOnes, BitVec.and_allOnes]
  simp

theorem mmkProfile_out (s : Half) : mmkProfile.out s = s := by
  apply BitVec.eq_of_getLsbD_eq
  intro i hi
  simp only [CrcProfile.out, CrcProfile.mask, mmkProfile, if_true, Bool.false_eq_true, if_false]
  rw [show (0xFFFF : Half) = BitVec.allOnes 16 from rfl, BitVec.and_allOnes, BitVec.and_allOnes]
  simp

/-- CRC_RTU is the state after the bytes, from 0xFFFF. -/
theorem crcRtu_eq (d : List Byte) : crcRtu d = rtuProfile.feed 0xFFFF d := by
  unfold crcRtu CrcProfile.compute
  rw [rtuProfile_out]
  rfl

/-- CRC_MMK is the state after the bytes, from 0x0000. -/
theorem crcMmk_eq (d : List Byte) : crcMmk d = mmkProfile.feed 0x0000 d := by
  unfold crcMmk CrcProfile.compute
  rw [mmkProfile_out]
  rfl

end Sys2Proof.Machine
end

