-- ==== Sys2Proof/Laws/Memory.lean ====
section
/-! SUPPORT. Byte buffers: a read after a write, and every operation keeps the canonical form. -/

namespace Sys2Proof.Machine

theorem Memory.risingFrom_mono {lo hi : Nat} (h : lo ≤ hi) :
    ∀ {m : Memory}, m.risingFrom hi = true → m.risingFrom lo = true
  | [], _ => rfl
  | (a, b) :: m, w => by
    simp only [Memory.risingFrom, Bool.and_eq_true, decide_eq_true_eq] at w ⊢
    exact ⟨⟨by omega, w.1.2⟩, w.2⟩

/-- Below the first index a canonical buffer reads as the fill byte. -/
theorem Memory.read_below_rising : ∀ {m : Memory} {lo k : Nat}, m.risingFrom lo = true → k < lo → m.read k = Memory.fill
  | [], _, _, _, _ => rfl
  | (a, b) :: m, lo, k, w, h => by
    simp only [Memory.risingFrom, Bool.and_eq_true, decide_eq_true_eq] at w
    have hne : k ≠ a := by omega
    simp only [Memory.read, if_neg hne]
    exact Memory.read_below_rising w.2 (by omega)

/-- What every read after a write returns, in canonical buffers. -/
theorem Memory.read_write_rising : ∀ {m : Memory} {lo : Nat}, m.risingFrom lo = true → ∀ (k : Nat) (v : Byte) (j : Nat),
    (m.write k v).read j = if j = k then v else m.read j
  | [], _, _, k, v, j => by
    by_cases hv : v = Memory.fill <;> by_cases hj : j = k <;> simp [Memory.write, Memory.read, hv, hj]
  | (a, b) :: m, lo, w, k, v, j => by
    have w' := w
    simp only [Memory.risingFrom, Bool.and_eq_true, decide_eq_true_eq] at w
    unfold Memory.write
    by_cases h1 : k < a
    · by_cases hv : v = Memory.fill
      · by_cases hj : j = k
        · subst hj
          have hne : j ≠ a := by omega
          simpa [h1, hv, Memory.read, hne] using Memory.read_below_rising w.2 (by omega : j < a + 1)
        · simp [h1, hv, hj]
      · simp [h1, hv, Memory.read]
    · by_cases h2 : k = a
      · subst h2
        by_cases hv : v = Memory.fill
        · by_cases hj : j = k
          · subst hj
            simpa [hv] using Memory.read_below_rising w.2 (by omega : j < j + 1)
          · simp [hv, hj, Memory.read]
        · by_cases hj : j = k <;> simp [hv, hj, Memory.read]
      · have ih := Memory.read_write_rising w.2 k v j
        by_cases hj : j = a
        · subst hj
          have : j ≠ k := fun e => h2 e.symm
          simp [h1, h2, Memory.read, this]
        · simp [h1, h2, Memory.read, hj, ih]

theorem Memory.risingFrom_write : ∀ {m : Memory} {lo k : Nat}, m.risingFrom lo = true → lo ≤ k → ∀ v,
    (m.write k v).risingFrom lo = true
  | [], lo, k, _, h, v => by
    by_cases hv : v = Memory.fill <;> simp [Memory.write, Memory.risingFrom, hv, h]
  | (a, b) :: m, lo, k, w, h, v => by
    have w' := w
    simp only [Memory.risingFrom, Bool.and_eq_true, decide_eq_true_eq] at w
    unfold Memory.write
    by_cases h1 : k < a
    · by_cases hv : v = Memory.fill
      · simpa [h1, hv] using w'
      · simp [h1, hv, Memory.risingFrom, h, w.1.2, w.2]
    · by_cases h2 : k = a
      · subst h2
        by_cases hv : v = Memory.fill
        · simpa [hv] using Memory.risingFrom_mono (by omega : lo ≤ k + 1) w.2
        · simp [hv, Memory.risingFrom, h, w.2]
      · have ih := Memory.risingFrom_write w.2 (by omega : a + 1 ≤ k) v
        simp [h1, h2, Memory.risingFrom, w.1.1, w.1.2, ih]

/-- A write keeps the canonical form. -/
theorem Memory.wf_write {m : Memory} (w : m.wf = true) (k : Nat) (v : Byte) : (m.write k v).wf = true :=
  Memory.risingFrom_write w (Nat.zero_le k) v

/-- A read after a write: the byte written at its index, the old byte everywhere else. -/
theorem Memory.read_write {m : Memory} (w : m.wf = true) (k : Nat) (v : Byte) (j : Nat) :
    (m.write k v).read j = if j = k then v else m.read j :=
  Memory.read_write_rising w k v j

/-- A write below the buffer's size keeps every index below it. -/
theorem Memory.below_write : ∀ {m : Memory} {size k : Nat}, m.below size = true → k < size → ∀ v,
    (m.write k v).below size = true
  | [], size, k, _, h, v => by
    by_cases hv : v = Memory.fill <;> simp [Memory.write, Memory.below, hv, h]
  | (a, b) :: m, size, k, w, h, v => by
    have w' := w
    simp only [Memory.below, List.all_cons, Bool.and_eq_true, decide_eq_true_eq] at w
    have ih := Memory.below_write (m := m) (by simpa [Memory.below] using w.2) h v
    unfold Memory.write
    by_cases h1 : k < a
    · by_cases hv : v = Memory.fill
      · simpa [h1, hv] using w'
      · simpa [h1, hv, Memory.below, h] using w
    · by_cases h2 : k = a
      · subst h2
        by_cases hv : v = Memory.fill
        · simpa [hv, Memory.below] using w.2
        · simpa [hv, Memory.below, h] using w.2
      · simp only [h1, h2, if_false]
        simpa [Memory.below, w.1] using ih

/-- Past its size a buffer reads as the fill byte. -/
theorem Memory.read_of_below : ∀ {m : Memory} {size k : Nat}, m.below size = true → size ≤ k → m.read k = Memory.fill
  | [], _, _, _, _ => rfl
  | (a, b) :: m, size, k, w, h => by
    simp only [Memory.below, List.all_cons, Bool.and_eq_true, decide_eq_true_eq] at w
    have hne : k ≠ a := by omega
    simp only [Memory.read, if_neg hne]
    exact Memory.read_of_below (by simpa [Memory.below] using w.2) h

/-- Writing a run of bytes keeps the canonical form. -/
theorem Memory.wf_writeBytes : ∀ (bs : List Byte) {m : Memory} (k : Nat), m.wf = true → (m.writeBytes k bs).wf = true
  | [], _, _, w => w
  | b :: bs, _, k, w => Memory.wf_writeBytes bs (k + 1) (Memory.wf_write w k b)

/-- Writing a run of bytes inside the buffer keeps every index below its size. -/
theorem Memory.below_writeBytes {size : Nat} : ∀ (bs : List Byte) {m : Memory} (k : Nat), m.below size = true →
    k + bs.length ≤ size → (m.writeBytes k bs).below size = true
  | [], _, _, w, _ => w
  | b :: bs, _, k, w, h => by
    simp only [List.length_cons] at h
    exact Memory.below_writeBytes bs (k + 1) (Memory.below_write w (by omega) b) (by omega)

/-- A read after writing a run of bytes: the byte of the run at its index, the old byte outside the run. -/
theorem Memory.read_writeBytes : ∀ (bs : List Byte) {m : Memory} (k : Nat), m.wf = true → ∀ j,
    (m.writeBytes k bs).read j = if k ≤ j ∧ j < k + bs.length then bs.getD (j - k) 0 else m.read j
  | [], m, k, _, j => by
    simp [Memory.writeBytes]
  | b :: bs, m, k, w, j => by
    rw [Memory.writeBytes, Memory.read_writeBytes bs (k + 1) (Memory.wf_write w k b) j, Memory.read_write w]
    by_cases hj : j = k
    · subst hj
      simp
    · by_cases hin : k + 1 ≤ j ∧ j < k + 1 + bs.length
      · have h2 : k ≤ j ∧ j < k + (bs.length + 1) := by omega
        have h3 : j - k = (j - (k + 1)) + 1 := by omega
        simp [hin, h2, h3]
      · have h2 : ¬(k ≤ j ∧ j < k + (bs.length + 1)) := by omega
        simp only [hin, if_false, hj, List.length_cons, h2]

/-- Storing a word keeps the canonical form. -/
theorem Memory.wf_writeWord {m : Memory} (w : m.wf = true) (k : Nat) (v : Word) : (m.writeWord k v).wf = true :=
  Memory.wf_writeBytes _ _ w

@[simp] theorem Memory.length_bytes (m : Memory) (n : Nat) : (m.bytes n).length = n := by simp [Memory.bytes]

/-- The byte at an index of the first `n` bytes. -/
theorem Memory.getElem?_bytes (m : Memory) (n i : Nat) : (m.bytes n)[i]? = if i < n then some (m.read i) else none := by
  by_cases h : i < n <;> simp [Memory.bytes, h]

/-- Canonical buffers that read alike are equal. -/
theorem Memory.eq_of_read_rising : ∀ {m n : Memory} {lo : Nat}, m.risingFrom lo = true → n.risingFrom lo = true →
    (∀ j, m.read j = n.read j) → m = n
  | [], [], _, _, _, _ => rfl
  | [], (a, b) :: n, _, _, wn, h => by
    simp only [Memory.risingFrom, Bool.and_eq_true, decide_eq_true_eq] at wn
    have := h a
    simp only [Memory.read, if_pos] at this
    exact absurd this.symm wn.1.2
  | (a, b) :: m, [], _, wm, _, h => by
    simp only [Memory.risingFrom, Bool.and_eq_true, decide_eq_true_eq] at wm
    have := h a
    simp only [Memory.read, if_pos] at this
    exact absurd this wm.1.2
  | (a, b) :: m, (c, d) :: n, lo, wm, wn, h => by
    have wm' := wm
    have wn' := wn
    simp only [Memory.risingFrom, Bool.and_eq_true, decide_eq_true_eq] at wm wn
    have hac : a = c := by
      rcases Nat.lt_trichotomy a c with hlt | heq | hgt
      · have h1 := h a
        have hne : a ≠ c := by omega
        simp only [Memory.read, if_pos, if_neg hne] at h1
        exact absurd (h1.trans (Memory.read_below_rising wn.2 (by omega))) wm.1.2
      · exact heq
      · have h1 := h c
        have hne : c ≠ a := by omega
        simp only [Memory.read, if_pos, if_neg hne] at h1
        exact absurd (h1.symm.trans (Memory.read_below_rising wm.2 (by omega))) wn.1.2
    subst hac
    have hbd : b = d := by simpa [Memory.read] using h a
    subst hbd
    have htail : ∀ j, Memory.read m j = Memory.read n j := by
      intro j
      by_cases hj : j = a
      · subst hj
        rw [Memory.read_below_rising wm.2 (by omega), Memory.read_below_rising wn.2 (by omega)]
      · simpa [Memory.read, hj] using h j
    rw [Memory.eq_of_read_rising wm.2 wn.2 htail]

/-- Canonical buffers that read alike are equal. -/
theorem Memory.eq_of_read {m n : Memory} (wm : m.wf = true) (wn : n.wf = true) (h : ∀ j, m.read j = n.read j) : m = n :=
  Memory.eq_of_read_rising wm wn h

end Sys2Proof.Machine
end

