-- ==== Sys2Proof/Laws/State.lean ====
section
/-! SUPPORT. What each named update of the state does to each field: one lemma per field and update. -/

namespace Sys2Proof.Machine

variable (s : State)

/-! `State.finish` -/

@[simp] theorem State.finish_lastResult (c : ResultCode) :
    (s.finish c).lastResult = c := rfl
@[simp] theorem State.finish_err (c : ResultCode) :
    (s.finish c).err = stickyErr s.err c := rfl
@[simp] theorem State.finish_crcCfg (c : ResultCode) :
    (s.finish c).crcCfg = s.crcCfg := rfl
@[simp] theorem State.finish_crcPoly (c : ResultCode) :
    (s.finish c).crcPoly = s.crcPoly := rfl
@[simp] theorem State.finish_crcInit (c : ResultCode) :
    (s.finish c).crcInit = s.crcInit := rfl
@[simp] theorem State.finish_crcXorout (c : ResultCode) :
    (s.finish c).crcXorout = s.crcXorout := rfl
@[simp] theorem State.finish_crcState (c : ResultCode) :
    (s.finish c).crcState = s.crcState := rfl
@[simp] theorem State.finish_frSlave (c : ResultCode) :
    (s.finish c).frSlave = s.frSlave := rfl
@[simp] theorem State.finish_frFunc (c : ResultCode) :
    (s.finish c).frFunc = s.frFunc := rfl
@[simp] theorem State.finish_frStart (c : ResultCode) :
    (s.finish c).frStart = s.frStart := rfl
@[simp] theorem State.finish_frCount (c : ResultCode) :
    (s.finish c).frCount = s.frCount := rfl
@[simp] theorem State.finish_frBpr (c : ResultCode) :
    (s.finish c).frBpr = s.frBpr := rfl
@[simp] theorem State.finish_frValue (c : ResultCode) :
    (s.finish c).frValue = s.frValue := rfl
@[simp] theorem State.finish_frXfunc (c : ResultCode) :
    (s.finish c).frXfunc = s.frXfunc := rfl
@[simp] theorem State.finish_tx (c : ResultCode) :
    (s.finish c).tx = s.tx := rfl
@[simp] theorem State.finish_txLen (c : ResultCode) :
    (s.finish c).txLen = s.txLen := rfl
@[simp] theorem State.finish_rx (c : ResultCode) :
    (s.finish c).rx = s.rx := rfl
@[simp] theorem State.finish_rxLen (c : ResultCode) :
    (s.finish c).rxLen = s.rxLen := rfl
@[simp] theorem State.finish_valPlLen (c : ResultCode) :
    (s.finish c).valPlLen = s.valPlLen := rfl
@[simp] theorem State.finish_extWord (c : ResultCode) :
    (s.finish c).extWord = s.extWord := rfl
@[simp] theorem State.finish_mmkDec0 (c : ResultCode) :
    (s.finish c).mmkDec0 = s.mmkDec0 := rfl
@[simp] theorem State.finish_mmkDec1 (c : ResultCode) :
    (s.finish c).mmkDec1 = s.mmkDec1 := rfl
@[simp] theorem State.finish_smpN (c : ResultCode) :
    (s.finish c).smpN = s.smpN := rfl
@[simp] theorem State.finish_smpMaxdevLo (c : ResultCode) :
    (s.finish c).smpMaxdevLo = s.smpMaxdevLo := rfl
@[simp] theorem State.finish_smpMaxdevHi (c : ResultCode) :
    (s.finish c).smpMaxdevHi = s.smpMaxdevHi := rfl
@[simp] theorem State.finish_smpPrim (c : ResultCode) :
    (s.finish c).smpPrim = s.smpPrim := rfl
@[simp] theorem State.finish_smpTan (c : ResultCode) :
    (s.finish c).smpTan = s.smpTan := rfl
@[simp] theorem State.finish_cursor (c : ResultCode) :
    (s.finish c).cursor = s.cursor := rfl
@[simp] theorem State.finish_kind (c : ResultCode) :
    (s.finish c).kind = s.kind := rfl
@[simp] theorem State.finish_kindValid (c : ResultCode) :
    (s.finish c).kindValid = s.kindValid := rfl
@[simp] theorem State.finish_estValid (c : ResultCode) :
    (s.finish c).estValid = s.estValid := rfl
@[simp] theorem State.finish_lastFillRej (c : ResultCode) :
    (s.finish c).lastFillRej = s.lastFillRej := rfl
@[simp] theorem State.finish_accCnt (c : ResultCode) :
    (s.finish c).accCnt = s.accCnt := rfl
@[simp] theorem State.finish_rejCnt (c : ResultCode) :
    (s.finish c).rejCnt = s.rejCnt := rfl
@[simp] theorem State.finish_estMean (c : ResultCode) :
    (s.finish c).estMean = s.estMean := rfl
@[simp] theorem State.finish_estSd (c : ResultCode) :
    (s.finish c).estSd = s.estSd := rfl
@[simp] theorem State.finish_estTmean (c : ResultCode) :
    (s.finish c).estTmean = s.estTmean := rfl
@[simp] theorem State.finish_estTsd (c : ResultCode) :
    (s.finish c).estTsd = s.estTsd := rfl
@[simp] theorem State.finish_estCount (c : ResultCode) :
    (s.finish c).estCount = s.estCount := rfl
@[simp] theorem State.finish_estKind (c : ResultCode) :
    (s.finish c).estKind = s.estKind := rfl
@[simp] theorem State.finish_bufP (c : ResultCode) :
    (s.finish c).bufP = s.bufP := rfl
@[simp] theorem State.finish_bufT (c : ResultCode) :
    (s.finish c).bufT = s.bufT := rfl
@[simp] theorem State.finish_resetAsserted (c : ResultCode) :
    (s.finish c).resetAsserted = s.resetAsserted := rfl
@[simp] theorem State.finish_pending (c : ResultCode) :
    (s.finish c).pending = s.pending := rfl
@[simp] theorem State.finish_answer (c : ResultCode) :
    (s.finish c).answer = s.answer := rfl
@[simp] theorem State.finish_draws (c : ResultCode) :
    (s.finish c).draws = s.draws := rfl

/-! `State.emit` -/

@[simp] theorem State.emit_lastResult (f : List Byte) :
    (s.emit f).lastResult = s.lastResult := by simp only [State.emit]
@[simp] theorem State.emit_err (f : List Byte) :
    (s.emit f).err = s.err := by simp only [State.emit]
@[simp] theorem State.emit_crcCfg (f : List Byte) :
    (s.emit f).crcCfg = s.crcCfg := by simp only [State.emit]
@[simp] theorem State.emit_crcPoly (f : List Byte) :
    (s.emit f).crcPoly = s.crcPoly := by simp only [State.emit]
@[simp] theorem State.emit_crcInit (f : List Byte) :
    (s.emit f).crcInit = s.crcInit := by simp only [State.emit]
@[simp] theorem State.emit_crcXorout (f : List Byte) :
    (s.emit f).crcXorout = s.crcXorout := by simp only [State.emit]
@[simp] theorem State.emit_crcState (f : List Byte) :
    (s.emit f).crcState = s.crcState := by simp only [State.emit]
@[simp] theorem State.emit_frSlave (f : List Byte) :
    (s.emit f).frSlave = s.frSlave := by simp only [State.emit]
@[simp] theorem State.emit_frFunc (f : List Byte) :
    (s.emit f).frFunc = s.frFunc := by simp only [State.emit]
@[simp] theorem State.emit_frStart (f : List Byte) :
    (s.emit f).frStart = s.frStart := by simp only [State.emit]
@[simp] theorem State.emit_frCount (f : List Byte) :
    (s.emit f).frCount = s.frCount := by simp only [State.emit]
@[simp] theorem State.emit_frBpr (f : List Byte) :
    (s.emit f).frBpr = s.frBpr := by simp only [State.emit]
@[simp] theorem State.emit_frValue (f : List Byte) :
    (s.emit f).frValue = s.frValue := by simp only [State.emit]
@[simp] theorem State.emit_frXfunc (f : List Byte) :
    (s.emit f).frXfunc = s.frXfunc := by simp only [State.emit]
@[simp] theorem State.emit_tx (f : List Byte) :
    (s.emit f).tx = s.tx.writeBytes 0 (txImage f) := by simp only [State.emit]
@[simp] theorem State.emit_txLen (f : List Byte) :
    (s.emit f).txLen = BitVec.ofNat 5 f.length := by simp only [State.emit]
@[simp] theorem State.emit_rx (f : List Byte) :
    (s.emit f).rx = s.rx := by simp only [State.emit]
@[simp] theorem State.emit_rxLen (f : List Byte) :
    (s.emit f).rxLen = s.rxLen := by simp only [State.emit]
@[simp] theorem State.emit_valPlLen (f : List Byte) :
    (s.emit f).valPlLen = s.valPlLen := by simp only [State.emit]
@[simp] theorem State.emit_extWord (f : List Byte) :
    (s.emit f).extWord = s.extWord := by simp only [State.emit]
@[simp] theorem State.emit_mmkDec0 (f : List Byte) :
    (s.emit f).mmkDec0 = s.mmkDec0 := by simp only [State.emit]
@[simp] theorem State.emit_mmkDec1 (f : List Byte) :
    (s.emit f).mmkDec1 = s.mmkDec1 := by simp only [State.emit]
@[simp] theorem State.emit_smpN (f : List Byte) :
    (s.emit f).smpN = s.smpN := by simp only [State.emit]
@[simp] theorem State.emit_smpMaxdevLo (f : List Byte) :
    (s.emit f).smpMaxdevLo = s.smpMaxdevLo := by simp only [State.emit]
@[simp] theorem State.emit_smpMaxdevHi (f : List Byte) :
    (s.emit f).smpMaxdevHi = s.smpMaxdevHi := by simp only [State.emit]
@[simp] theorem State.emit_smpPrim (f : List Byte) :
    (s.emit f).smpPrim = s.smpPrim := by simp only [State.emit]
@[simp] theorem State.emit_smpTan (f : List Byte) :
    (s.emit f).smpTan = s.smpTan := by simp only [State.emit]
@[simp] theorem State.emit_cursor (f : List Byte) :
    (s.emit f).cursor = s.cursor := by simp only [State.emit]
@[simp] theorem State.emit_kind (f : List Byte) :
    (s.emit f).kind = s.kind := by simp only [State.emit]
@[simp] theorem State.emit_kindValid (f : List Byte) :
    (s.emit f).kindValid = s.kindValid := by simp only [State.emit]
@[simp] theorem State.emit_estValid (f : List Byte) :
    (s.emit f).estValid = s.estValid := by simp only [State.emit]
@[simp] theorem State.emit_lastFillRej (f : List Byte) :
    (s.emit f).lastFillRej = s.lastFillRej := by simp only [State.emit]
@[simp] theorem State.emit_accCnt (f : List Byte) :
    (s.emit f).accCnt = s.accCnt := by simp only [State.emit]
@[simp] theorem State.emit_rejCnt (f : List Byte) :
    (s.emit f).rejCnt = s.rejCnt := by simp only [State.emit]
@[simp] theorem State.emit_estMean (f : List Byte) :
    (s.emit f).estMean = s.estMean := by simp only [State.emit]
@[simp] theorem State.emit_estSd (f : List Byte) :
    (s.emit f).estSd = s.estSd := by simp only [State.emit]
@[simp] theorem State.emit_estTmean (f : List Byte) :
    (s.emit f).estTmean = s.estTmean := by simp only [State.emit]
@[simp] theorem State.emit_estTsd (f : List Byte) :
    (s.emit f).estTsd = s.estTsd := by simp only [State.emit]
@[simp] theorem State.emit_estCount (f : List Byte) :
    (s.emit f).estCount = s.estCount := by simp only [State.emit]
@[simp] theorem State.emit_estKind (f : List Byte) :
    (s.emit f).estKind = s.estKind := by simp only [State.emit]
@[simp] theorem State.emit_bufP (f : List Byte) :
    (s.emit f).bufP = s.bufP := by simp only [State.emit]
@[simp] theorem State.emit_bufT (f : List Byte) :
    (s.emit f).bufT = s.bufT := by simp only [State.emit]
@[simp] theorem State.emit_resetAsserted (f : List Byte) :
    (s.emit f).resetAsserted = s.resetAsserted := by simp only [State.emit]
@[simp] theorem State.emit_pending (f : List Byte) :
    (s.emit f).pending = s.pending := by simp only [State.emit]
@[simp] theorem State.emit_answer (f : List Byte) :
    (s.emit f).answer = s.answer := by simp only [State.emit]
@[simp] theorem State.emit_draws (f : List Byte) :
    (s.emit f).draws = s.draws := by simp only [State.emit]

/-! `State.loadProfile` -/

@[simp] theorem State.loadProfile_lastResult (g : BitVec 4) (p i x : Half) :
    (s.loadProfile g p i x).lastResult = s.lastResult := rfl
@[simp] theorem State.loadProfile_err (g : BitVec 4) (p i x : Half) :
    (s.loadProfile g p i x).err = s.err := rfl
@[simp] theorem State.loadProfile_crcCfg (g : BitVec 4) (p i x : Half) :
    (s.loadProfile g p i x).crcCfg = g := rfl
@[simp] theorem State.loadProfile_crcPoly (g : BitVec 4) (p i x : Half) :
    (s.loadProfile g p i x).crcPoly = p := rfl
@[simp] theorem State.loadProfile_crcInit (g : BitVec 4) (p i x : Half) :
    (s.loadProfile g p i x).crcInit = i := rfl
@[simp] theorem State.loadProfile_crcXorout (g : BitVec 4) (p i x : Half) :
    (s.loadProfile g p i x).crcXorout = x := rfl
@[simp] theorem State.loadProfile_crcState (g : BitVec 4) (p i x : Half) :
    (s.loadProfile g p i x).crcState = i := rfl
@[simp] theorem State.loadProfile_frSlave (g : BitVec 4) (p i x : Half) :
    (s.loadProfile g p i x).frSlave = s.frSlave := rfl
@[simp] theorem State.loadProfile_frFunc (g : BitVec 4) (p i x : Half) :
    (s.loadProfile g p i x).frFunc = s.frFunc := rfl
@[simp] theorem State.loadProfile_frStart (g : BitVec 4) (p i x : Half) :
    (s.loadProfile g p i x).frStart = s.frStart := rfl
@[simp] theorem State.loadProfile_frCount (g : BitVec 4) (p i x : Half) :
    (s.loadProfile g p i x).frCount = s.frCount := rfl
@[simp] theorem State.loadProfile_frBpr (g : BitVec 4) (p i x : Half) :
    (s.loadProfile g p i x).frBpr = s.frBpr := rfl
@[simp] theorem State.loadProfile_frValue (g : BitVec 4) (p i x : Half) :
    (s.loadProfile g p i x).frValue = s.frValue := rfl
@[simp] theorem State.loadProfile_frXfunc (g : BitVec 4) (p i x : Half) :
    (s.loadProfile g p i x).frXfunc = s.frXfunc := rfl
@[simp] theorem State.loadProfile_tx (g : BitVec 4) (p i x : Half) :
    (s.loadProfile g p i x).tx = s.tx := rfl
@[simp] theorem State.loadProfile_txLen (g : BitVec 4) (p i x : Half) :
    (s.loadProfile g p i x).txLen = s.txLen := rfl
@[simp] theorem State.loadProfile_rx (g : BitVec 4) (p i x : Half) :
    (s.loadProfile g p i x).rx = s.rx := rfl
@[simp] theorem State.loadProfile_rxLen (g : BitVec 4) (p i x : Half) :
    (s.loadProfile g p i x).rxLen = s.rxLen := rfl
@[simp] theorem State.loadProfile_valPlLen (g : BitVec 4) (p i x : Half) :
    (s.loadProfile g p i x).valPlLen = s.valPlLen := rfl
@[simp] theorem State.loadProfile_extWord (g : BitVec 4) (p i x : Half) :
    (s.loadProfile g p i x).extWord = s.extWord := rfl
@[simp] theorem State.loadProfile_mmkDec0 (g : BitVec 4) (p i x : Half) :
    (s.loadProfile g p i x).mmkDec0 = s.mmkDec0 := rfl
@[simp] theorem State.loadProfile_mmkDec1 (g : BitVec 4) (p i x : Half) :
    (s.loadProfile g p i x).mmkDec1 = s.mmkDec1 := rfl
@[simp] theorem State.loadProfile_smpN (g : BitVec 4) (p i x : Half) :
    (s.loadProfile g p i x).smpN = s.smpN := rfl
@[simp] theorem State.loadProfile_smpMaxdevLo (g : BitVec 4) (p i x : Half) :
    (s.loadProfile g p i x).smpMaxdevLo = s.smpMaxdevLo := rfl
@[simp] theorem State.loadProfile_smpMaxdevHi (g : BitVec 4) (p i x : Half) :
    (s.loadProfile g p i x).smpMaxdevHi = s.smpMaxdevHi := rfl
@[simp] theorem State.loadProfile_smpPrim (g : BitVec 4) (p i x : Half) :
    (s.loadProfile g p i x).smpPrim = s.smpPrim := rfl
@[simp] theorem State.loadProfile_smpTan (g : BitVec 4) (p i x : Half) :
    (s.loadProfile g p i x).smpTan = s.smpTan := rfl
@[simp] theorem State.loadProfile_cursor (g : BitVec 4) (p i x : Half) :
    (s.loadProfile g p i x).cursor = s.cursor := rfl
@[simp] theorem State.loadProfile_kind (g : BitVec 4) (p i x : Half) :
    (s.loadProfile g p i x).kind = s.kind := rfl
@[simp] theorem State.loadProfile_kindValid (g : BitVec 4) (p i x : Half) :
    (s.loadProfile g p i x).kindValid = s.kindValid := rfl
@[simp] theorem State.loadProfile_estValid (g : BitVec 4) (p i x : Half) :
    (s.loadProfile g p i x).estValid = s.estValid := rfl
@[simp] theorem State.loadProfile_lastFillRej (g : BitVec 4) (p i x : Half) :
    (s.loadProfile g p i x).lastFillRej = s.lastFillRej := rfl
@[simp] theorem State.loadProfile_accCnt (g : BitVec 4) (p i x : Half) :
    (s.loadProfile g p i x).accCnt = s.accCnt := rfl
@[simp] theorem State.loadProfile_rejCnt (g : BitVec 4) (p i x : Half) :
    (s.loadProfile g p i x).rejCnt = s.rejCnt := rfl
@[simp] theorem State.loadProfile_estMean (g : BitVec 4) (p i x : Half) :
    (s.loadProfile g p i x).estMean = s.estMean := rfl
@[simp] theorem State.loadProfile_estSd (g : BitVec 4) (p i x : Half) :
    (s.loadProfile g p i x).estSd = s.estSd := rfl
@[simp] theorem State.loadProfile_estTmean (g : BitVec 4) (p i x : Half) :
    (s.loadProfile g p i x).estTmean = s.estTmean := rfl
@[simp] theorem State.loadProfile_estTsd (g : BitVec 4) (p i x : Half) :
    (s.loadProfile g p i x).estTsd = s.estTsd := rfl
@[simp] theorem State.loadProfile_estCount (g : BitVec 4) (p i x : Half) :
    (s.loadProfile g p i x).estCount = s.estCount := rfl
@[simp] theorem State.loadProfile_estKind (g : BitVec 4) (p i x : Half) :
    (s.loadProfile g p i x).estKind = s.estKind := rfl
@[simp] theorem State.loadProfile_bufP (g : BitVec 4) (p i x : Half) :
    (s.loadProfile g p i x).bufP = s.bufP := rfl
@[simp] theorem State.loadProfile_bufT (g : BitVec 4) (p i x : Half) :
    (s.loadProfile g p i x).bufT = s.bufT := rfl
@[simp] theorem State.loadProfile_resetAsserted (g : BitVec 4) (p i x : Half) :
    (s.loadProfile g p i x).resetAsserted = s.resetAsserted := rfl
@[simp] theorem State.loadProfile_pending (g : BitVec 4) (p i x : Half) :
    (s.loadProfile g p i x).pending = s.pending := rfl
@[simp] theorem State.loadProfile_answer (g : BitVec 4) (p i x : Half) :
    (s.loadProfile g p i x).answer = s.answer := rfl
@[simp] theorem State.loadProfile_draws (g : BitVec 4) (p i x : Half) :
    (s.loadProfile g p i x).draws = s.draws := rfl

/-! `State.storeSample` -/

@[simp] theorem State.storeSample_lastResult (k : ChannelKind) (c : Nat) :
    (s.storeSample k c).lastResult = s.lastResult := rfl
@[simp] theorem State.storeSample_err (k : ChannelKind) (c : Nat) :
    (s.storeSample k c).err = s.err := rfl
@[simp] theorem State.storeSample_crcCfg (k : ChannelKind) (c : Nat) :
    (s.storeSample k c).crcCfg = s.crcCfg := rfl
@[simp] theorem State.storeSample_crcPoly (k : ChannelKind) (c : Nat) :
    (s.storeSample k c).crcPoly = s.crcPoly := rfl
@[simp] theorem State.storeSample_crcInit (k : ChannelKind) (c : Nat) :
    (s.storeSample k c).crcInit = s.crcInit := rfl
@[simp] theorem State.storeSample_crcXorout (k : ChannelKind) (c : Nat) :
    (s.storeSample k c).crcXorout = s.crcXorout := rfl
@[simp] theorem State.storeSample_crcState (k : ChannelKind) (c : Nat) :
    (s.storeSample k c).crcState = s.crcState := rfl
@[simp] theorem State.storeSample_frSlave (k : ChannelKind) (c : Nat) :
    (s.storeSample k c).frSlave = s.frSlave := rfl
@[simp] theorem State.storeSample_frFunc (k : ChannelKind) (c : Nat) :
    (s.storeSample k c).frFunc = s.frFunc := rfl
@[simp] theorem State.storeSample_frStart (k : ChannelKind) (c : Nat) :
    (s.storeSample k c).frStart = s.frStart := rfl
@[simp] theorem State.storeSample_frCount (k : ChannelKind) (c : Nat) :
    (s.storeSample k c).frCount = s.frCount := rfl
@[simp] theorem State.storeSample_frBpr (k : ChannelKind) (c : Nat) :
    (s.storeSample k c).frBpr = s.frBpr := rfl
@[simp] theorem State.storeSample_frValue (k : ChannelKind) (c : Nat) :
    (s.storeSample k c).frValue = s.frValue := rfl
@[simp] theorem State.storeSample_frXfunc (k : ChannelKind) (c : Nat) :
    (s.storeSample k c).frXfunc = s.frXfunc := rfl
@[simp] theorem State.storeSample_tx (k : ChannelKind) (c : Nat) :
    (s.storeSample k c).tx = s.tx := rfl
@[simp] theorem State.storeSample_txLen (k : ChannelKind) (c : Nat) :
    (s.storeSample k c).txLen = s.txLen := rfl
@[simp] theorem State.storeSample_rx (k : ChannelKind) (c : Nat) :
    (s.storeSample k c).rx = s.rx := rfl
@[simp] theorem State.storeSample_rxLen (k : ChannelKind) (c : Nat) :
    (s.storeSample k c).rxLen = s.rxLen := rfl
@[simp] theorem State.storeSample_valPlLen (k : ChannelKind) (c : Nat) :
    (s.storeSample k c).valPlLen = s.valPlLen := rfl
@[simp] theorem State.storeSample_extWord (k : ChannelKind) (c : Nat) :
    (s.storeSample k c).extWord = s.extWord := rfl
@[simp] theorem State.storeSample_mmkDec0 (k : ChannelKind) (c : Nat) :
    (s.storeSample k c).mmkDec0 = s.mmkDec0 := rfl
@[simp] theorem State.storeSample_mmkDec1 (k : ChannelKind) (c : Nat) :
    (s.storeSample k c).mmkDec1 = s.mmkDec1 := rfl
@[simp] theorem State.storeSample_smpN (k : ChannelKind) (c : Nat) :
    (s.storeSample k c).smpN = s.smpN := rfl
@[simp] theorem State.storeSample_smpMaxdevLo (k : ChannelKind) (c : Nat) :
    (s.storeSample k c).smpMaxdevLo = s.smpMaxdevLo := rfl
@[simp] theorem State.storeSample_smpMaxdevHi (k : ChannelKind) (c : Nat) :
    (s.storeSample k c).smpMaxdevHi = s.smpMaxdevHi := rfl
@[simp] theorem State.storeSample_smpPrim (k : ChannelKind) (c : Nat) :
    (s.storeSample k c).smpPrim = s.smpPrim := rfl
@[simp] theorem State.storeSample_smpTan (k : ChannelKind) (c : Nat) :
    (s.storeSample k c).smpTan = s.smpTan := rfl
@[simp] theorem State.storeSample_cursor (k : ChannelKind) (c : Nat) :
    (s.storeSample k c).cursor = s.cursor := rfl
@[simp] theorem State.storeSample_kind (k : ChannelKind) (c : Nat) :
    (s.storeSample k c).kind = k := rfl
@[simp] theorem State.storeSample_kindValid (k : ChannelKind) (c : Nat) :
    (s.storeSample k c).kindValid = true := rfl
@[simp] theorem State.storeSample_estValid (k : ChannelKind) (c : Nat) :
    (s.storeSample k c).estValid = s.estValid := rfl
@[simp] theorem State.storeSample_lastFillRej (k : ChannelKind) (c : Nat) :
    (s.storeSample k c).lastFillRej = s.lastFillRej := rfl
@[simp] theorem State.storeSample_accCnt (k : ChannelKind) (c : Nat) :
    (s.storeSample k c).accCnt = s.accCnt := rfl
@[simp] theorem State.storeSample_rejCnt (k : ChannelKind) (c : Nat) :
    (s.storeSample k c).rejCnt = s.rejCnt := rfl
@[simp] theorem State.storeSample_estMean (k : ChannelKind) (c : Nat) :
    (s.storeSample k c).estMean = s.estMean := rfl
@[simp] theorem State.storeSample_estSd (k : ChannelKind) (c : Nat) :
    (s.storeSample k c).estSd = s.estSd := rfl
@[simp] theorem State.storeSample_estTmean (k : ChannelKind) (c : Nat) :
    (s.storeSample k c).estTmean = s.estTmean := rfl
@[simp] theorem State.storeSample_estTsd (k : ChannelKind) (c : Nat) :
    (s.storeSample k c).estTsd = s.estTsd := rfl
@[simp] theorem State.storeSample_estCount (k : ChannelKind) (c : Nat) :
    (s.storeSample k c).estCount = s.estCount := rfl
@[simp] theorem State.storeSample_estKind (k : ChannelKind) (c : Nat) :
    (s.storeSample k c).estKind = s.estKind := rfl
@[simp] theorem State.storeSample_bufP (k : ChannelKind) (c : Nat) :
    (s.storeSample k c).bufP = s.bufP.put c (widen (Config.freeNaNBits s.draws) s.smpPrim) := rfl
@[simp] theorem State.storeSample_bufT (k : ChannelKind) (c : Nat) :
    (s.storeSample k c).bufT = s.bufT.put c (widen (Config.freeNaNBits (s.draws + 1)) s.smpTan) := rfl
@[simp] theorem State.storeSample_resetAsserted (k : ChannelKind) (c : Nat) :
    (s.storeSample k c).resetAsserted = s.resetAsserted := rfl
@[simp] theorem State.storeSample_pending (k : ChannelKind) (c : Nat) :
    (s.storeSample k c).pending = s.pending := rfl
@[simp] theorem State.storeSample_answer (k : ChannelKind) (c : Nat) :
    (s.storeSample k c).answer = s.answer := rfl
@[simp] theorem State.storeSample_draws (k : ChannelKind) (c : Nat) :
    (s.storeSample k c).draws = s.draws + 2 := rfl

/-! `State.acceptFill` -/

@[simp] theorem State.acceptFill_lastResult (n : Nat) (k : ChannelKind) (m : F64) :
    (s.acceptFill n k m).lastResult = s.lastResult := rfl
@[simp] theorem State.acceptFill_err (n : Nat) (k : ChannelKind) (m : F64) :
    (s.acceptFill n k m).err = s.err := rfl
@[simp] theorem State.acceptFill_crcCfg (n : Nat) (k : ChannelKind) (m : F64) :
    (s.acceptFill n k m).crcCfg = s.crcCfg := rfl
@[simp] theorem State.acceptFill_crcPoly (n : Nat) (k : ChannelKind) (m : F64) :
    (s.acceptFill n k m).crcPoly = s.crcPoly := rfl
@[simp] theorem State.acceptFill_crcInit (n : Nat) (k : ChannelKind) (m : F64) :
    (s.acceptFill n k m).crcInit = s.crcInit := rfl
@[simp] theorem State.acceptFill_crcXorout (n : Nat) (k : ChannelKind) (m : F64) :
    (s.acceptFill n k m).crcXorout = s.crcXorout := rfl
@[simp] theorem State.acceptFill_crcState (n : Nat) (k : ChannelKind) (m : F64) :
    (s.acceptFill n k m).crcState = s.crcState := rfl
@[simp] theorem State.acceptFill_frSlave (n : Nat) (k : ChannelKind) (m : F64) :
    (s.acceptFill n k m).frSlave = s.frSlave := rfl
@[simp] theorem State.acceptFill_frFunc (n : Nat) (k : ChannelKind) (m : F64) :
    (s.acceptFill n k m).frFunc = s.frFunc := rfl
@[simp] theorem State.acceptFill_frStart (n : Nat) (k : ChannelKind) (m : F64) :
    (s.acceptFill n k m).frStart = s.frStart := rfl
@[simp] theorem State.acceptFill_frCount (n : Nat) (k : ChannelKind) (m : F64) :
    (s.acceptFill n k m).frCount = s.frCount := rfl
@[simp] theorem State.acceptFill_frBpr (n : Nat) (k : ChannelKind) (m : F64) :
    (s.acceptFill n k m).frBpr = s.frBpr := rfl
@[simp] theorem State.acceptFill_frValue (n : Nat) (k : ChannelKind) (m : F64) :
    (s.acceptFill n k m).frValue = s.frValue := rfl
@[simp] theorem State.acceptFill_frXfunc (n : Nat) (k : ChannelKind) (m : F64) :
    (s.acceptFill n k m).frXfunc = s.frXfunc := rfl
@[simp] theorem State.acceptFill_tx (n : Nat) (k : ChannelKind) (m : F64) :
    (s.acceptFill n k m).tx = s.tx := rfl
@[simp] theorem State.acceptFill_txLen (n : Nat) (k : ChannelKind) (m : F64) :
    (s.acceptFill n k m).txLen = s.txLen := rfl
@[simp] theorem State.acceptFill_rx (n : Nat) (k : ChannelKind) (m : F64) :
    (s.acceptFill n k m).rx = s.rx := rfl
@[simp] theorem State.acceptFill_rxLen (n : Nat) (k : ChannelKind) (m : F64) :
    (s.acceptFill n k m).rxLen = s.rxLen := rfl
@[simp] theorem State.acceptFill_valPlLen (n : Nat) (k : ChannelKind) (m : F64) :
    (s.acceptFill n k m).valPlLen = s.valPlLen := rfl
@[simp] theorem State.acceptFill_extWord (n : Nat) (k : ChannelKind) (m : F64) :
    (s.acceptFill n k m).extWord = s.extWord := rfl
@[simp] theorem State.acceptFill_mmkDec0 (n : Nat) (k : ChannelKind) (m : F64) :
    (s.acceptFill n k m).mmkDec0 = s.mmkDec0 := rfl
@[simp] theorem State.acceptFill_mmkDec1 (n : Nat) (k : ChannelKind) (m : F64) :
    (s.acceptFill n k m).mmkDec1 = s.mmkDec1 := rfl
@[simp] theorem State.acceptFill_smpN (n : Nat) (k : ChannelKind) (m : F64) :
    (s.acceptFill n k m).smpN = s.smpN := rfl
@[simp] theorem State.acceptFill_smpMaxdevLo (n : Nat) (k : ChannelKind) (m : F64) :
    (s.acceptFill n k m).smpMaxdevLo = s.smpMaxdevLo := rfl
@[simp] theorem State.acceptFill_smpMaxdevHi (n : Nat) (k : ChannelKind) (m : F64) :
    (s.acceptFill n k m).smpMaxdevHi = s.smpMaxdevHi := rfl
@[simp] theorem State.acceptFill_smpPrim (n : Nat) (k : ChannelKind) (m : F64) :
    (s.acceptFill n k m).smpPrim = s.smpPrim := rfl
@[simp] theorem State.acceptFill_smpTan (n : Nat) (k : ChannelKind) (m : F64) :
    (s.acceptFill n k m).smpTan = s.smpTan := rfl
@[simp] theorem State.acceptFill_cursor (n : Nat) (k : ChannelKind) (m : F64) :
    (s.acceptFill n k m).cursor = s.cursor := rfl
@[simp] theorem State.acceptFill_kind (n : Nat) (k : ChannelKind) (m : F64) :
    (s.acceptFill n k m).kind = s.kind := rfl
@[simp] theorem State.acceptFill_kindValid (n : Nat) (k : ChannelKind) (m : F64) :
    (s.acceptFill n k m).kindValid = s.kindValid := rfl
@[simp] theorem State.acceptFill_estValid (n : Nat) (k : ChannelKind) (m : F64) :
    (s.acceptFill n k m).estValid = true := rfl
@[simp] theorem State.acceptFill_lastFillRej (n : Nat) (k : ChannelKind) (m : F64) :
    (s.acceptFill n k m).lastFillRej = false := rfl
@[simp] theorem State.acceptFill_accCnt (n : Nat) (k : ChannelKind) (m : F64) :
    (s.acceptFill n k m).accCnt = s.accCnt + 1 := rfl
@[simp] theorem State.acceptFill_rejCnt (n : Nat) (k : ChannelKind) (m : F64) :
    (s.acceptFill n k m).rejCnt = s.rejCnt := rfl
@[simp] theorem State.acceptFill_estMean (n : Nat) (k : ChannelKind) (m : F64) :
    (s.acceptFill n k m).estMean = resultBits s.draws m := rfl
@[simp] theorem State.acceptFill_estSd (n : Nat) (k : ChannelKind) (m : F64) :
    (s.acceptFill n k m).estSd = resultBits (s.draws + 1) (stdDev (batch s.bufP n) m) := rfl
@[simp] theorem State.acceptFill_estTmean (n : Nat) (k : ChannelKind) (m : F64) :
    (s.acceptFill n k m).estTmean = resultBits (s.draws + 2) (mean (batch s.bufT n)) := rfl
@[simp] theorem State.acceptFill_estTsd (n : Nat) (k : ChannelKind) (m : F64) :
    (s.acceptFill n k m).estTsd = resultBits (s.draws + 3) (stdDev (batch s.bufT n) (mean (batch s.bufT n))) := rfl
@[simp] theorem State.acceptFill_estCount (n : Nat) (k : ChannelKind) (m : F64) :
    (s.acceptFill n k m).estCount = BitVec.ofNat 8 n := rfl
@[simp] theorem State.acceptFill_estKind (n : Nat) (k : ChannelKind) (m : F64) :
    (s.acceptFill n k m).estKind = k := rfl
@[simp] theorem State.acceptFill_bufP (n : Nat) (k : ChannelKind) (m : F64) :
    (s.acceptFill n k m).bufP = s.bufP := rfl
@[simp] theorem State.acceptFill_bufT (n : Nat) (k : ChannelKind) (m : F64) :
    (s.acceptFill n k m).bufT = s.bufT := rfl
@[simp] theorem State.acceptFill_resetAsserted (n : Nat) (k : ChannelKind) (m : F64) :
    (s.acceptFill n k m).resetAsserted = s.resetAsserted := rfl
@[simp] theorem State.acceptFill_pending (n : Nat) (k : ChannelKind) (m : F64) :
    (s.acceptFill n k m).pending = s.pending := rfl
@[simp] theorem State.acceptFill_answer (n : Nat) (k : ChannelKind) (m : F64) :
    (s.acceptFill n k m).answer = s.answer := rfl
@[simp] theorem State.acceptFill_draws (n : Nat) (k : ChannelKind) (m : F64) :
    (s.acceptFill n k m).draws = s.draws + 4 := rfl

/-! `State.rejectFill` -/

@[simp] theorem State.rejectFill_lastResult :
    s.rejectFill.lastResult = s.lastResult := rfl
@[simp] theorem State.rejectFill_err :
    s.rejectFill.err = s.err := rfl
@[simp] theorem State.rejectFill_crcCfg :
    s.rejectFill.crcCfg = s.crcCfg := rfl
@[simp] theorem State.rejectFill_crcPoly :
    s.rejectFill.crcPoly = s.crcPoly := rfl
@[simp] theorem State.rejectFill_crcInit :
    s.rejectFill.crcInit = s.crcInit := rfl
@[simp] theorem State.rejectFill_crcXorout :
    s.rejectFill.crcXorout = s.crcXorout := rfl
@[simp] theorem State.rejectFill_crcState :
    s.rejectFill.crcState = s.crcState := rfl
@[simp] theorem State.rejectFill_frSlave :
    s.rejectFill.frSlave = s.frSlave := rfl
@[simp] theorem State.rejectFill_frFunc :
    s.rejectFill.frFunc = s.frFunc := rfl
@[simp] theorem State.rejectFill_frStart :
    s.rejectFill.frStart = s.frStart := rfl
@[simp] theorem State.rejectFill_frCount :
    s.rejectFill.frCount = s.frCount := rfl
@[simp] theorem State.rejectFill_frBpr :
    s.rejectFill.frBpr = s.frBpr := rfl
@[simp] theorem State.rejectFill_frValue :
    s.rejectFill.frValue = s.frValue := rfl
@[simp] theorem State.rejectFill_frXfunc :
    s.rejectFill.frXfunc = s.frXfunc := rfl
@[simp] theorem State.rejectFill_tx :
    s.rejectFill.tx = s.tx := rfl
@[simp] theorem State.rejectFill_txLen :
    s.rejectFill.txLen = s.txLen := rfl
@[simp] theorem State.rejectFill_rx :
    s.rejectFill.rx = s.rx := rfl
@[simp] theorem State.rejectFill_rxLen :
    s.rejectFill.rxLen = s.rxLen := rfl
@[simp] theorem State.rejectFill_valPlLen :
    s.rejectFill.valPlLen = s.valPlLen := rfl
@[simp] theorem State.rejectFill_extWord :
    s.rejectFill.extWord = s.extWord := rfl
@[simp] theorem State.rejectFill_mmkDec0 :
    s.rejectFill.mmkDec0 = s.mmkDec0 := rfl
@[simp] theorem State.rejectFill_mmkDec1 :
    s.rejectFill.mmkDec1 = s.mmkDec1 := rfl
@[simp] theorem State.rejectFill_smpN :
    s.rejectFill.smpN = s.smpN := rfl
@[simp] theorem State.rejectFill_smpMaxdevLo :
    s.rejectFill.smpMaxdevLo = s.smpMaxdevLo := rfl
@[simp] theorem State.rejectFill_smpMaxdevHi :
    s.rejectFill.smpMaxdevHi = s.smpMaxdevHi := rfl
@[simp] theorem State.rejectFill_smpPrim :
    s.rejectFill.smpPrim = s.smpPrim := rfl
@[simp] theorem State.rejectFill_smpTan :
    s.rejectFill.smpTan = s.smpTan := rfl
@[simp] theorem State.rejectFill_cursor :
    s.rejectFill.cursor = s.cursor := rfl
@[simp] theorem State.rejectFill_kind :
    s.rejectFill.kind = s.kind := rfl
@[simp] theorem State.rejectFill_kindValid :
    s.rejectFill.kindValid = s.kindValid := rfl
@[simp] theorem State.rejectFill_estValid :
    s.rejectFill.estValid = s.estValid := rfl
@[simp] theorem State.rejectFill_lastFillRej :
    s.rejectFill.lastFillRej = true := rfl
@[simp] theorem State.rejectFill_accCnt :
    s.rejectFill.accCnt = s.accCnt := rfl
@[simp] theorem State.rejectFill_rejCnt :
    s.rejectFill.rejCnt = s.rejCnt + 1 := rfl
@[simp] theorem State.rejectFill_estMean :
    s.rejectFill.estMean = s.estMean := rfl
@[simp] theorem State.rejectFill_estSd :
    s.rejectFill.estSd = s.estSd := rfl
@[simp] theorem State.rejectFill_estTmean :
    s.rejectFill.estTmean = s.estTmean := rfl
@[simp] theorem State.rejectFill_estTsd :
    s.rejectFill.estTsd = s.estTsd := rfl
@[simp] theorem State.rejectFill_estCount :
    s.rejectFill.estCount = s.estCount := rfl
@[simp] theorem State.rejectFill_estKind :
    s.rejectFill.estKind = s.estKind := rfl
@[simp] theorem State.rejectFill_bufP :
    s.rejectFill.bufP = s.bufP := rfl
@[simp] theorem State.rejectFill_bufT :
    s.rejectFill.bufT = s.bufT := rfl
@[simp] theorem State.rejectFill_resetAsserted :
    s.rejectFill.resetAsserted = s.resetAsserted := rfl
@[simp] theorem State.rejectFill_pending :
    s.rejectFill.pending = s.pending := rfl
@[simp] theorem State.rejectFill_answer :
    s.rejectFill.answer = s.answer := rfl
@[simp] theorem State.rejectFill_draws :
    s.rejectFill.draws = s.draws := rfl

/-! `State.offerCommand` -/

@[simp] theorem State.offerCommand_lastResult (w : Word) :
    (s.offerCommand w).lastResult = s.lastResult := rfl
@[simp] theorem State.offerCommand_err (w : Word) :
    (s.offerCommand w).err = s.err := rfl
@[simp] theorem State.offerCommand_crcCfg (w : Word) :
    (s.offerCommand w).crcCfg = s.crcCfg := rfl
@[simp] theorem State.offerCommand_crcPoly (w : Word) :
    (s.offerCommand w).crcPoly = s.crcPoly := rfl
@[simp] theorem State.offerCommand_crcInit (w : Word) :
    (s.offerCommand w).crcInit = s.crcInit := rfl
@[simp] theorem State.offerCommand_crcXorout (w : Word) :
    (s.offerCommand w).crcXorout = s.crcXorout := rfl
@[simp] theorem State.offerCommand_crcState (w : Word) :
    (s.offerCommand w).crcState = s.crcState := rfl
@[simp] theorem State.offerCommand_frSlave (w : Word) :
    (s.offerCommand w).frSlave = s.frSlave := rfl
@[simp] theorem State.offerCommand_frFunc (w : Word) :
    (s.offerCommand w).frFunc = s.frFunc := rfl
@[simp] theorem State.offerCommand_frStart (w : Word) :
    (s.offerCommand w).frStart = s.frStart := rfl
@[simp] theorem State.offerCommand_frCount (w : Word) :
    (s.offerCommand w).frCount = s.frCount := rfl
@[simp] theorem State.offerCommand_frBpr (w : Word) :
    (s.offerCommand w).frBpr = s.frBpr := rfl
@[simp] theorem State.offerCommand_frValue (w : Word) :
    (s.offerCommand w).frValue = s.frValue := rfl
@[simp] theorem State.offerCommand_frXfunc (w : Word) :
    (s.offerCommand w).frXfunc = s.frXfunc := rfl
@[simp] theorem State.offerCommand_tx (w : Word) :
    (s.offerCommand w).tx = s.tx := rfl
@[simp] theorem State.offerCommand_txLen (w : Word) :
    (s.offerCommand w).txLen = s.txLen := rfl
@[simp] theorem State.offerCommand_rx (w : Word) :
    (s.offerCommand w).rx = s.rx := rfl
@[simp] theorem State.offerCommand_rxLen (w : Word) :
    (s.offerCommand w).rxLen = s.rxLen := rfl
@[simp] theorem State.offerCommand_valPlLen (w : Word) :
    (s.offerCommand w).valPlLen = s.valPlLen := rfl
@[simp] theorem State.offerCommand_extWord (w : Word) :
    (s.offerCommand w).extWord = s.extWord := rfl
@[simp] theorem State.offerCommand_mmkDec0 (w : Word) :
    (s.offerCommand w).mmkDec0 = s.mmkDec0 := rfl
@[simp] theorem State.offerCommand_mmkDec1 (w : Word) :
    (s.offerCommand w).mmkDec1 = s.mmkDec1 := rfl
@[simp] theorem State.offerCommand_smpN (w : Word) :
    (s.offerCommand w).smpN = s.smpN := rfl
@[simp] theorem State.offerCommand_smpMaxdevLo (w : Word) :
    (s.offerCommand w).smpMaxdevLo = s.smpMaxdevLo := rfl
@[simp] theorem State.offerCommand_smpMaxdevHi (w : Word) :
    (s.offerCommand w).smpMaxdevHi = s.smpMaxdevHi := rfl
@[simp] theorem State.offerCommand_smpPrim (w : Word) :
    (s.offerCommand w).smpPrim = s.smpPrim := rfl
@[simp] theorem State.offerCommand_smpTan (w : Word) :
    (s.offerCommand w).smpTan = s.smpTan := rfl
@[simp] theorem State.offerCommand_cursor (w : Word) :
    (s.offerCommand w).cursor = s.cursor := rfl
@[simp] theorem State.offerCommand_kind (w : Word) :
    (s.offerCommand w).kind = s.kind := rfl
@[simp] theorem State.offerCommand_kindValid (w : Word) :
    (s.offerCommand w).kindValid = s.kindValid := rfl
@[simp] theorem State.offerCommand_estValid (w : Word) :
    (s.offerCommand w).estValid = s.estValid := rfl
@[simp] theorem State.offerCommand_lastFillRej (w : Word) :
    (s.offerCommand w).lastFillRej = s.lastFillRej := rfl
@[simp] theorem State.offerCommand_accCnt (w : Word) :
    (s.offerCommand w).accCnt = s.accCnt := rfl
@[simp] theorem State.offerCommand_rejCnt (w : Word) :
    (s.offerCommand w).rejCnt = s.rejCnt := rfl
@[simp] theorem State.offerCommand_estMean (w : Word) :
    (s.offerCommand w).estMean = s.estMean := rfl
@[simp] theorem State.offerCommand_estSd (w : Word) :
    (s.offerCommand w).estSd = s.estSd := rfl
@[simp] theorem State.offerCommand_estTmean (w : Word) :
    (s.offerCommand w).estTmean = s.estTmean := rfl
@[simp] theorem State.offerCommand_estTsd (w : Word) :
    (s.offerCommand w).estTsd = s.estTsd := rfl
@[simp] theorem State.offerCommand_estCount (w : Word) :
    (s.offerCommand w).estCount = s.estCount := rfl
@[simp] theorem State.offerCommand_estKind (w : Word) :
    (s.offerCommand w).estKind = s.estKind := rfl
@[simp] theorem State.offerCommand_bufP (w : Word) :
    (s.offerCommand w).bufP = s.bufP := rfl
@[simp] theorem State.offerCommand_bufT (w : Word) :
    (s.offerCommand w).bufT = s.bufT := rfl
@[simp] theorem State.offerCommand_resetAsserted (w : Word) :
    (s.offerCommand w).resetAsserted = false := rfl
@[simp] theorem State.offerCommand_pending (w : Word) :
    (s.offerCommand w).pending = .write Reg.cmd.offset .w32 w :: s.pending := rfl
@[simp] theorem State.offerCommand_answer (w : Word) :
    (s.offerCommand w).answer = s.answer := rfl
@[simp] theorem State.offerCommand_draws (w : Word) :
    (s.offerCommand w).draws = s.draws := rfl

/-! `State.resetEngine` -/

@[simp] theorem State.resetEngine_lastResult :
    s.resetEngine.lastResult = State.reset.lastResult := rfl
@[simp] theorem State.resetEngine_err :
    s.resetEngine.err = State.reset.err := rfl
@[simp] theorem State.resetEngine_crcCfg :
    s.resetEngine.crcCfg = State.reset.crcCfg := rfl
@[simp] theorem State.resetEngine_crcPoly :
    s.resetEngine.crcPoly = State.reset.crcPoly := rfl
@[simp] theorem State.resetEngine_crcInit :
    s.resetEngine.crcInit = State.reset.crcInit := rfl
@[simp] theorem State.resetEngine_crcXorout :
    s.resetEngine.crcXorout = State.reset.crcXorout := rfl
@[simp] theorem State.resetEngine_crcState :
    s.resetEngine.crcState = State.reset.crcState := rfl
@[simp] theorem State.resetEngine_frSlave :
    s.resetEngine.frSlave = State.reset.frSlave := rfl
@[simp] theorem State.resetEngine_frFunc :
    s.resetEngine.frFunc = State.reset.frFunc := rfl
@[simp] theorem State.resetEngine_frStart :
    s.resetEngine.frStart = State.reset.frStart := rfl
@[simp] theorem State.resetEngine_frCount :
    s.resetEngine.frCount = State.reset.frCount := rfl
@[simp] theorem State.resetEngine_frBpr :
    s.resetEngine.frBpr = State.reset.frBpr := rfl
@[simp] theorem State.resetEngine_frValue :
    s.resetEngine.frValue = State.reset.frValue := rfl
@[simp] theorem State.resetEngine_frXfunc :
    s.resetEngine.frXfunc = State.reset.frXfunc := rfl
@[simp] theorem State.resetEngine_tx :
    s.resetEngine.tx = State.reset.tx := rfl
@[simp] theorem State.resetEngine_txLen :
    s.resetEngine.txLen = State.reset.txLen := rfl
@[simp] theorem State.resetEngine_rx :
    s.resetEngine.rx = State.reset.rx := rfl
@[simp] theorem State.resetEngine_rxLen :
    s.resetEngine.rxLen = State.reset.rxLen := rfl
@[simp] theorem State.resetEngine_valPlLen :
    s.resetEngine.valPlLen = State.reset.valPlLen := rfl
@[simp] theorem State.resetEngine_extWord :
    s.resetEngine.extWord = State.reset.extWord := rfl
@[simp] theorem State.resetEngine_mmkDec0 :
    s.resetEngine.mmkDec0 = State.reset.mmkDec0 := rfl
@[simp] theorem State.resetEngine_mmkDec1 :
    s.resetEngine.mmkDec1 = State.reset.mmkDec1 := rfl
@[simp] theorem State.resetEngine_smpN :
    s.resetEngine.smpN = State.reset.smpN := rfl
@[simp] theorem State.resetEngine_smpMaxdevLo :
    s.resetEngine.smpMaxdevLo = State.reset.smpMaxdevLo := rfl
@[simp] theorem State.resetEngine_smpMaxdevHi :
    s.resetEngine.smpMaxdevHi = State.reset.smpMaxdevHi := rfl
@[simp] theorem State.resetEngine_smpPrim :
    s.resetEngine.smpPrim = State.reset.smpPrim := rfl
@[simp] theorem State.resetEngine_smpTan :
    s.resetEngine.smpTan = State.reset.smpTan := rfl
@[simp] theorem State.resetEngine_cursor :
    s.resetEngine.cursor = State.reset.cursor := rfl
@[simp] theorem State.resetEngine_kind :
    s.resetEngine.kind = State.reset.kind := rfl
@[simp] theorem State.resetEngine_kindValid :
    s.resetEngine.kindValid = State.reset.kindValid := rfl
@[simp] theorem State.resetEngine_estValid :
    s.resetEngine.estValid = State.reset.estValid := rfl
@[simp] theorem State.resetEngine_lastFillRej :
    s.resetEngine.lastFillRej = State.reset.lastFillRej := rfl
@[simp] theorem State.resetEngine_accCnt :
    s.resetEngine.accCnt = State.reset.accCnt := rfl
@[simp] theorem State.resetEngine_rejCnt :
    s.resetEngine.rejCnt = State.reset.rejCnt := rfl
@[simp] theorem State.resetEngine_estMean :
    s.resetEngine.estMean = State.reset.estMean := rfl
@[simp] theorem State.resetEngine_estSd :
    s.resetEngine.estSd = State.reset.estSd := rfl
@[simp] theorem State.resetEngine_estTmean :
    s.resetEngine.estTmean = State.reset.estTmean := rfl
@[simp] theorem State.resetEngine_estTsd :
    s.resetEngine.estTsd = State.reset.estTsd := rfl
@[simp] theorem State.resetEngine_estCount :
    s.resetEngine.estCount = State.reset.estCount := rfl
@[simp] theorem State.resetEngine_estKind :
    s.resetEngine.estKind = State.reset.estKind := rfl
@[simp] theorem State.resetEngine_bufP :
    s.resetEngine.bufP = Config.freeStore s.draws := rfl
@[simp] theorem State.resetEngine_bufT :
    s.resetEngine.bufT = Config.freeStore (s.draws + 1) := rfl
@[simp] theorem State.resetEngine_resetAsserted :
    s.resetEngine.resetAsserted = s.resetAsserted := rfl
@[simp] theorem State.resetEngine_pending :
    s.resetEngine.pending = s.pending := rfl
@[simp] theorem State.resetEngine_answer :
    s.resetEngine.answer = s.answer := rfl
@[simp] theorem State.resetEngine_draws :
    s.resetEngine.draws = s.draws + resetDraws := rfl

end Sys2Proof.Machine
end

