-- ==== Sys2Proof/Laws/Ops.lean ====
section
/-! SUPPORT. What each shared operation and each branching meaning can do, said once: if it answers a next state, one of
these cases holds. -/

namespace Sys2Proof.Machine

variable {s t : State}

/-! Sample slots -/

@[simp] theorem Store.slot_put (b : Store) (i j : Nat) (x : DWord) :
    (b.put i x).slot j = if i = j ∧ j < Config.nMax then x else b.slot j := by
  unfold Store.put Store.slot
  rw [Vector.getElem?_setIfInBounds]
  by_cases h : i = j
  · subst h
    by_cases hb : i < Config.nMax
    · simp [hb]
    · simp [hb]
  · simp [h]

/-! Result codes -/

/-- The codes that set ERR are all but OK and the two informational ones (60_exceptions.md R200). -/
theorem isError_eq (c : ResultCode) : isError c = !(decide (c = .ok ∨ c = .fillAccepted ∨ c = .fillRejected)) := by
  cases c <;> rfl

@[simp] theorem stickyErr_ok (e : Bool) : stickyErr e .ok = e := by cases e <;> rfl

@[simp] theorem stickyErr_fillAccepted (e : Bool) : stickyErr e .fillAccepted = e := by cases e <;> rfl

@[simp] theorem stickyErr_fillRejected (e : Bool) : stickyErr e .fillRejected = e := by cases e <;> rfl

/-- An error code sets ERR. -/
theorem stickyErr_of_isError {c : ResultCode} (h : isError c = true) (e : Bool) : stickyErr e c = true := by
  simp [stickyErr, h]

/-! Meanings with several outcomes -/

/-- Everything CRC_LOAD_PROFILE can do. -/
theorem execCrcLoadProfile_cases {arg : Byte} (h : execCrcLoadProfile arg s = .next t) :
    (arg.toNat = 0 ∧ t = (s.loadProfile 0x3 0xA001 0xFFFF 0x0000).finish .ok) ∨
    (arg.toNat = 1 ∧ t = (s.loadProfile 0x1 0x8005 0x0000 0x0000).finish .ok) ∨
    (2 ≤ arg.toNat ∧ t = s.finish .badArg) := by
  unfold execCrcLoadProfile argNat at h
  split at h
  · cases h; exact .inl ⟨‹_›, rfl⟩
  · split at h
    · cases h; exact .inr (.inl ⟨‹_›, rfl⟩)
    · cases h; exact .inr (.inr ⟨by omega, rfl⟩)

/-- Everything EXTRACT_F32 can do. -/
theorem execExtractF32_cases {arg : Byte} (h : execExtractF32 arg s = .next t) :
    (s.valPlLen.toNat < arg.toNat + 4 ∧ t = s.finish .extractRange) ∨
    (arg.toNat + 4 ≤ s.valPlLen.toNat ∧ t = ({ s with extWord := payloadF32 s arg.toNat } : State).finish .ok) := by
  unfold execExtractF32 argNat at h
  split at h
  · cases h; exact .inl ⟨by omega, rfl⟩
  · cases h; exact .inr ⟨by omega, rfl⟩

/-- Everything EXTRACT_U16 can do. -/
theorem execExtractU16_cases {arg : Byte} (h : execExtractU16 arg s = .next t) :
    (s.valPlLen.toNat < arg.toNat + 2 ∧ t = s.finish .extractRange) ∨
    (arg.toNat + 2 ≤ s.valPlLen.toNat ∧
      t = ({ s with extWord := (payloadU16 s arg.toNat).setWidth 32 } : State).finish .ok) := by
  unfold execExtractU16 argNat at h
  split at h
  · cases h; exact .inl ⟨by omega, rfl⟩
  · cases h; exact .inr ⟨by omega, rfl⟩

/-- Everything MMK_DECODE can do. -/
theorem execMmkDecode_cases {arg : Byte} (h : execMmkDecode arg s = .next t) :
    (∃ c, mmkParse (rxFrame s) = .error c ∧ t = s.finish c) ∨
    (∃ out, mmkParse (rxFrame s) = .ok out ∧
      t = ({ s with mmkDec0 := t.mmkDec0, mmkDec1 := t.mmkDec1 } : State).finish .ok ∧
      t.mmkDec0 = out.getD 3 0 ++ (out.getD 2 0 ++ (out.getD 1 0 ++ out.getD 0 0)) ∧
      t.mmkDec1 = out.getD 5 0 ++ (out.getD 6 0 ++ ((0 : Byte) ++ out.getD 4 0))) := by
  unfold execMmkDecode at h
  split at h
  · cases h; exact .inl ⟨_, ‹_›, rfl⟩
  · rename_i out hp
    cases h
    exact .inr ⟨out, hp, rfl, rfl, rfl⟩

/-- Everything a fill can do. -/
theorem State.fill_cases (s : State) (n : Nat) (k : ChannelKind) :
    (rejected (batch s.bufP n) (mean (batch s.bufP n)) (F64.ofBits (maxdevBits s)) = true ∧
      s.fill n k = s.rejectFill.finish .fillRejected) ∨
    (rejected (batch s.bufP n) (mean (batch s.bufP n)) (F64.ofBits (maxdevBits s)) = false ∧
      s.fill n k = (s.acceptFill n k (mean (batch s.bufP n))).finish .fillAccepted) := by
  unfold State.fill
  by_cases h : rejected (batch s.bufP n) (mean (batch s.bufP n)) (F64.ofBits (maxdevBits s)) = true
  · exact .inl ⟨h, by simp [h]⟩
  · exact .inr ⟨by simpa using h, by simp [h]⟩

/-- Everything SMP_ADD can do. -/
theorem execSmpAdd_cases {arg : Byte} (h : execSmpAdd arg s = .next t) :
    (argHigh arg ≠ 0 ∧ t = s.finish .badArg) ∨
    (argHigh arg = 0 ∧ sampleSlot s (argKind arg) + 1 < s.smpN.toNat ∧
      t = ({ s.storeSample (argKind arg) (sampleSlot s (argKind arg)) with
              cursor := BitVec.ofNat 8 (sampleSlot s (argKind arg) + 1) } : State).finish .ok) ∨
    (argHigh arg = 0 ∧ s.smpN.toNat ≤ sampleSlot s (argKind arg) + 1 ∧
      t = State.fill { s.storeSample (argKind arg) (sampleSlot s (argKind arg)) with cursor := 0 }
            s.smpN.toNat (argKind arg)) := by
  unfold execSmpAdd at h
  split at h
  · cases h; exact .inl ⟨‹_›, rfl⟩
  · rename_i h0
    have h0 : argHigh arg = 0 := by simpa using h0
    dsimp only at h
    split at h
    · cases h; exact .inr (.inl ⟨h0, ‹_›, rfl⟩)
    · cases h; exact .inr (.inr ⟨h0, by omega, rfl⟩)

/-- Every code VALIDATE_RTU can end with, and when (43_parser.md R151). -/
theorem validateCode_cases (s : State) :
    (rxCount s < 5 ∧ validateCode s = .frameTooShort) ∨
    (5 ≤ rxCount s ∧ validateCode s = .crcMismatch ∧
      ¬(s.rx.read (rxCount s - 2) = loByte (crcRtu (s.rx.bytes (rxCount s - 2))) ∧
        s.rx.read (rxCount s - 1) = hiByte (crcRtu (s.rx.bytes (rxCount s - 2))))) ∨
    (5 ≤ rxCount s ∧ s.rx.read (rxCount s - 2) = loByte (crcRtu (s.rx.bytes (rxCount s - 2))) ∧
      s.rx.read (rxCount s - 1) = hiByte (crcRtu (s.rx.bytes (rxCount s - 2))) ∧
      ((s.rx.read 0 ≠ s.frSlave ∧ validateCode s = .addressMismatch) ∨
       (s.rx.read 0 = s.frSlave ∧
        ((rxCount s ≠ expTotal s ∧ (s.rx.read 1 = xf0 s ∨ s.rx.read 1 = xf1 s) ∧
            validateCode s = .bcUnsupported) ∨
         (rxCount s ≠ expTotal s ∧ ¬(s.rx.read 1 = xf0 s ∨ s.rx.read 1 = xf1 s) ∧
            validateCode s = .bcSlaveError) ∨
         (rxCount s = expTotal s ∧ ¬(s.rx.read 1 = s.frFunc ∧ (s.rx.read 2).toNat = expData s) ∧
            validateCode s = .funcCountMismatch) ∨
         (rxCount s = expTotal s ∧ s.rx.read 1 = s.frFunc ∧ (s.rx.read 2).toNat = expData s ∧
            validateCode s = .ok))))) := by
  unfold validateCode
  dsimp only
  split
  · exact .inl ⟨‹_›, rfl⟩
  · split
    · rename_i h1 h2
      exact .inr (.inl ⟨by omega, rfl, fun h => h2.elim (fun g => g h.1) (fun g => g h.2)⟩)
    · rename_i h1 h2
      rw [not_or] at h2
      refine .inr (.inr ⟨by omega, not_not.mp h2.1, not_not.mp h2.2, ?_⟩)
      split
      · exact .inl ⟨‹_›, rfl⟩
      · rename_i h3
        refine .inr ⟨not_not.mp h3, ?_⟩
        split
        · split
          · exact .inl ⟨‹_›, ‹_›, rfl⟩
          · exact .inr (.inl ⟨‹_›, ‹_›, rfl⟩)
        · rename_i h4
          split
          · rename_i h5
            exact .inr (.inr (.inl ⟨not_not.mp h4, fun h => h5.elim (fun g => g h.1) (fun g => g h.2), rfl⟩))
          · rename_i h5
            rw [not_or] at h5
            exact .inr (.inr (.inr ⟨not_not.mp h4, not_not.mp h5.1, not_not.mp h5.2, rfl⟩))

/-! The bus -/

/-- Everything a write of CMD can do. -/
theorem runWord_cases {w : Word} (h : runWord w s = .next t) :
    (∃ i, decode w = .ok i ∧ exec i s = .next t) ∨ (∃ e, decode w = .error e ∧ t = s.finish .illegalCmd) := by
  unfold runWord at h
  split at h
  · exact .inl ⟨_, ‹_›, h⟩
  · cases h; exact .inr ⟨_, ‹_›, rfl⟩

/-- Everything a served write can do. -/
theorem serveWrite_cases {o : Offset} {v : Word} (h : serveWrite o v s = .next t) :
    (slotAt o = .reg .cmd ∧ runWord v s = .next t) ∨
    (∃ r, slotAt o = .reg r ∧ r ≠ .cmd ∧ t = writeReg r v s) ∨
    (∃ k, slotAt o = .rxWord k ∧ t = { s with rx := s.rx.writeWord k v }) ∨
    (((∃ k, slotAt o = .txWord k) ∨ slotAt o = .reserved) ∧ t = s) := by
  unfold serveWrite at h
  split at h
  · exact .inl ⟨‹_›, h⟩
  · rename_i r hne hr
    cases h
    exact .inr (.inl ⟨r, hr, fun e => hne (e ▸ rfl), rfl⟩)
  · cases h; exact .inr (.inr (.inl ⟨_, ‹_›, rfl⟩))
  · cases h; exact .inr (.inr (.inr ⟨.inl ⟨_, ‹_›⟩, rfl⟩))
  · cases h; exact .inr (.inr (.inr ⟨.inr ‹_›, rfl⟩))

theorem accessOk_iff (o : Offset) (width : AccessWidth) :
    accessOk o width = true ↔ width = .w32 ∧ o.toNat % 4 = 0 := by
  simp [accessOk]

/-- Everything serving an event can do. -/
theorem serve_cases {e : BusEvent} (h : serve e s = .next t) :
    (∃ b, e = .resetLine b ∧ t = moveReset b s) ∨
    (∃ o, e = .read o .w32 ∧ o.toNat % 4 = 0 ∧ s.resetAsserted = false ∧ t = { s with answer := .data (readAt o s) }) ∨
    (∃ o v, e = .write o .w32 v ∧ o.toNat % 4 = 0 ∧ s.resetAsserted = false ∧
      serveWrite o v { s with answer := .written } = .next t) := by
  unfold serve at h
  split at h
  · cases h; exact .inl ⟨_, rfl, rfl⟩
  · rename_i o width
    by_cases hr : s.resetAsserted = true
    · simp [hr] at h
    · by_cases ha : accessOk o width = true
      · rw [if_neg hr, if_pos ha] at h
        cases h
        obtain ⟨rfl, ho⟩ := (accessOk_iff _ _).mp ha
        exact .inr (.inl ⟨o, rfl, ho, by simpa using hr, rfl⟩)
      · simp [hr, ha] at h
  · rename_i o width v
    by_cases hr : s.resetAsserted = true
    · simp [hr] at h
    · by_cases ha : accessOk o width = true
      · rw [if_neg hr, if_pos ha] at h
        obtain ⟨rfl, ho⟩ := (accessOk_iff _ _).mp ha
        exact .inr (.inr ⟨o, v, rfl, ho, by simpa using hr, h⟩)
      · simp [hr, ha] at h

/-- Everything a step can do. -/
theorem step_cases (h : step s = .next t) :
    (s.pending = [] ∧ t = s) ∨ (∃ e rest, s.pending = e :: rest ∧ serve e { s with pending := rest } = .next t) := by
  unfold step serveNext at h
  split at h
  · cases h; exact .inl ⟨‹_›, rfl⟩
  · exact .inr ⟨_, _, ‹_›, h⟩

/-- A step with a pending event serves it. -/
theorem step_of_pending {e : BusEvent} {rest : List BusEvent} (h : s.pending = e :: rest) :
    step s = serve e { s with pending := rest } := by
  unfold step serveNext
  split
  · simp_all
  · rename_i e' rest' h'
    rw [h] at h'
    cases h'
    rfl

end Sys2Proof.Machine
end

