-- ==== Sys2Proof/Laws/PerInstr.lean ====
section
/-! SUPPORT. Facts about every command as syntax, one lemma for each constructor of Instr. -/

namespace Sys2Proof.Laws.EncodeFields

/-- The three fields of an encoded command: RSV is zero, ARG is its operand, OP its opcode (spec/30_encoding.md R90). -/
def Statement (i : Instr) : Prop :=
  rsvField (encode i) = 0 ∧ argField (encode i) = operand i ∧ opField (encode i) = opcode i

/-- The fields of a word put together from them. -/
theorem fields_of_append (a o : Byte) :
    rsvField ((0 : Half) ++ (a ++ o : Half)) = 0 ∧ argField ((0 : Half) ++ (a ++ o : Half)) = a ∧
      opField ((0 : Half) ++ (a ++ o : Half)) = o := by
  refine ⟨?_, ?_, ?_⟩ <;> (apply BitVec.eq_of_getLsbD_eq; intro i hi)
  · simp only [rsvField, BitVec.getLsbD_extractLsb', BitVec.getLsbD_append]
    have : ¬ 16 + i < 16 := by omega
    simp [this]
  · simp only [argField, BitVec.getLsbD_extractLsb', BitVec.getLsbD_append]
    have h1 : 8 + i < 16 := by omega
    simp [hi, h1]
  · simp only [opField, BitVec.getLsbD_extractLsb', BitVec.getLsbD_append]
    have h1 : i < 16 := by omega
    simp [hi, h1]

theorem nop (arg : Byte) : Statement (.nop arg) := fields_of_append _ _
theorem crcStart (arg : Byte) : Statement (.crcStart arg) := fields_of_append _ _
theorem crcFeed (arg : Byte) : Statement (.crcFeed arg) := fields_of_append _ _
theorem crcLoadProfile (arg : Byte) : Statement (.crcLoadProfile arg) := fields_of_append _ _
theorem crcComputeRx (arg : Byte) : Statement (.crcComputeRx arg) := fields_of_append _ _
theorem buildRtuRead (arg : Byte) : Statement (.buildRtuRead arg) := fields_of_append _ _
theorem buildRtuWrite (arg : Byte) : Statement (.buildRtuWrite arg) := fields_of_append _ _
theorem buildMmk (arg : Byte) : Statement (.buildMmk arg) := fields_of_append _ _
theorem validateRtu (arg : Byte) : Statement (.validateRtu arg) := fields_of_append _ _
theorem extractF32 (arg : Byte) : Statement (.extractF32 arg) := fields_of_append _ _
theorem extractU16 (arg : Byte) : Statement (.extractU16 arg) := fields_of_append _ _
theorem mmkDecode (arg : Byte) : Statement (.mmkDecode arg) := fields_of_append _ _
theorem smpAdd (arg : Byte) : Statement (.smpAdd arg) := fields_of_append _ _
theorem smpClear (arg : Byte) : Statement (.smpClear arg) := fields_of_append _ _
theorem clearStatus (arg : Byte) : Statement (.clearStatus arg) := fields_of_append _ _
theorem softReset (arg : Byte) : Statement (.softReset arg) := fields_of_append _ _

end Sys2Proof.Laws.EncodeFields
end

