-- ==== Sys2Proof/Certificates/Slice0/Obligations.lean ====
section
/-! DEFINITION. The statements for the provers. Each docstring names the rules of spec/ it formalises. -/

open Sys2Proof Sys2Proof.Machine

/-! ## Encoding (30_encoding.md) -/

/-- R90 to R92: decoding an encoded command gives it back, and a word that decodes is the encoding of its command, so
no bit of a legal word is dropped. -/
def Obligations.DecodeAndEncodeAgree : Prop :=
  (∀ i, decode (encode i) = .ok i) ∧ (∀ w i, decode w = .ok i → w = encode i)

/-- R92: a word is legal exactly when `w & 0xFFFF00FF` is one of the 16 OP values of R91; every other word is refused
by name. -/
def Obligations.LegalWordsAreTheSixteenOpcodes : Prop :=
  ∀ w : Word,
    ((∃ i, decode w = .ok i) ↔
      w &&& 0xFFFF00FF ∈ ([0x00, 0x01, 0x02, 0x03, 0x04, 0x10, 0x11, 0x12, 0x20, 0x21, 0x22, 0x23, 0x30, 0x31, 0x3E,
        0x3F] : List Word)) ∧
    (decode w = .error .reservedBits ↔ w &&& 0xFFFF0000 ≠ 0)

/-- R91, and the words of 95_test_vectors.md: one word of each family decodes to its command. -/
def Obligations.WordsOfEveryFamilyDecode : Prop :=
  decode 0x00000000 = .ok (.nop 0x00) ∧ decode 0x00003102 = .ok (.crcFeed 0x31) ∧
  decode 0x00000103 = .ok (.crcLoadProfile 0x01) ∧ decode 0x00000012 = .ok (.buildMmk 0x00) ∧
  decode 0x0000FF21 = .ok (.extractF32 0xFF) ∧ decode 0x00000023 = .ok (.mmkDecode 0x00) ∧
  decode 0x00000130 = .ok (.smpAdd 0x01) ∧ decode 0x0000FF3F = .ok (.softReset 0xFF) ∧
  decode 0x00000005 = .error .unlistedOp ∧ decode 0x00010000 = .error .reservedBits

/-- R93: for a command that takes no operand every ARG is legal, and runs the same command with the same effect. -/
def Obligations.IgnoredArgHasNoEffect : Prop :=
  (∀ a : Byte, ∀ op ∈ ([0x00, 0x01, 0x04, 0x10, 0x11, 0x12, 0x20, 0x23, 0x31, 0x3E, 0x3F] : List Byte),
    ∃ i, decode (commandWord op a) = .ok i ∧ opcode i = op) ∧
  ∀ (a b : Byte) (s : State),
    exec (.nop a) s = exec (.nop b) s ∧ exec (.crcStart a) s = exec (.crcStart b) s ∧
    exec (.crcComputeRx a) s = exec (.crcComputeRx b) s ∧ exec (.buildRtuRead a) s = exec (.buildRtuRead b) s ∧
    exec (.buildRtuWrite a) s = exec (.buildRtuWrite b) s ∧ exec (.buildMmk a) s = exec (.buildMmk b) s ∧
    exec (.validateRtu a) s = exec (.validateRtu b) s ∧ exec (.mmkDecode a) s = exec (.mmkDecode b) s ∧
    exec (.smpClear a) s = exec (.smpClear b) s ∧ exec (.clearStatus a) s = exec (.clearStatus b) s ∧
    exec (.softReset a) s = exec (.softReset b) s

/-- R94: writing an illegal word runs no command; LAST_RESULT becomes ILLEGAL_CMD, ERR becomes 1, nothing else
changes. -/
def Obligations.IllegalWordOnlySetsStatus : Prop :=
  ∀ (s : State) (rest : List BusEvent) (w : Word),
    (w >>> 16 ≠ 0 ∨ w &&& 0xFF ∉ ([0x00, 0x01, 0x02, 0x03, 0x04, 0x10, 0x11, 0x12, 0x20, 0x21, 0x22, 0x23, 0x30, 0x31,
      0x3E, 0x3F] : List Word)) →
    step (s.facing (.write 0x000 .w32 w) rest) =
      .next { s.served .written rest with lastResult := .illegalCmd, err := true }

/-! ## The bus (20_memory.md) and the register map (10_state.md) -/

/-- R22, R74: a write of a word that decodes to a command runs that command in one step; besides, the step takes the
event off the pending ones and answers it. -/
def Obligations.StepRunsTheDecodedCommand : Prop :=
  ∀ (s : State) (rest : List BusEvent) (w : Word) (i : Instr), decode w = .ok i →
    step (s.facing (.write 0x000 .w32 w) rest) = exec i (s.served .written rest)

/-- R75: a 32-bit read at any aligned offset answers with a word and changes nothing else. -/
def Obligations.ReadsHaveNoSideEffect : Prop :=
  ∀ (s : State) (rest : List BusEvent) (o : Offset), o.toNat % 4 = 0 →
    step (s.facing (.read o .w32) rest) = .next (s.served (.data (readAt o s)) rest)

/-- R13, R22 to R51, R200: what a read of each named register returns, as a number, CRC_RESULT apart; with the value of each
of the 18 result codes and of each channel kind. -/
def Obligations.RegisterReadsReturnTheirFields : Prop :=
  ∀ s : State,
    let code : Nat := match s.lastResult with
      | .ok => 0x00
      | .illegalCmd => 0x01
      | .badArg => 0x02
      | .frameTooShort => 0x10
      | .crcMismatch => 0x11
      | .addressMismatch => 0x12
      | .bcUnsupported => 0x13
      | .bcSlaveError => 0x14
      | .funcCountMismatch => 0x15
      | .mmkBadStart => 0x20
      | .mmkBadStuff => 0x21
      | .mmkNoEnd => 0x22
      | .mmkTrailing => 0x23
      | .mmkBadLength => 0x24
      | .mmkCrcMismatch => 0x25
      | .extractRange => 0x30
      | .fillAccepted => 0x41
      | .fillRejected => 0x42
    let kindNumber : ChannelKind → Nat := fun k => match k with
      | .r => 0
      | .l => 1
      | .c => 2
      | .m => 3
    (readAt 0x000 s).toNat = 0 ∧
    (readAt 0x004 s).toNat = code + (if s.err then 256 else 0) ∧
    (readAt 0x010 s).toNat = s.crcCfg.toNat ∧ (readAt 0x014 s).toNat = s.crcPoly.toNat ∧
    (readAt 0x018 s).toNat = s.crcInit.toNat ∧ (readAt 0x01C s).toNat = s.crcXorout.toNat ∧
    (readAt 0x020 s).toNat = s.crcState.toNat ∧
    (readAt 0x040 s).toNat = s.frSlave.toNat ∧ (readAt 0x044 s).toNat = s.frFunc.toNat ∧
    (readAt 0x048 s).toNat = s.frStart.toNat ∧ (readAt 0x04C s).toNat = s.frCount.toNat ∧
    (readAt 0x050 s).toNat = s.frBpr.toNat ∧ (readAt 0x054 s).toNat = s.frValue.toNat ∧
    (readAt 0x058 s).toNat = s.frXfunc.toNat ∧
    (readAt 0x05C s).toNat = s.frCount.toNat * s.frBpr.toNat ∧
    (readAt 0x060 s).toNat = 5 + s.frCount.toNat * s.frBpr.toNat ∧
    (readAt 0x064 s).toNat = s.txLen.toNat ∧ (readAt 0x068 s).toNat = s.rxLen.toNat ∧
    (readAt 0x06C s).toNat = s.valPlLen.toNat ∧ readAt 0x070 s = s.extWord ∧
    readAt 0x074 s = s.mmkDec0 ∧ readAt 0x078 s = s.mmkDec1 ∧
    (readAt 0x080 s).toNat = s.smpN.toNat ∧ readAt 0x084 s = s.smpMaxdevLo ∧ readAt 0x088 s = s.smpMaxdevHi ∧
    readAt 0x08C s = s.smpPrim ∧ readAt 0x090 s = s.smpTan ∧
    (readAt 0x094 s).toNat = s.cursor.toNat + 256 * kindNumber s.kind + (if s.kindValid then 1024 else 0) +
      (if s.estValid then 2048 else 0) + (if s.lastFillRej then 4096 else 0) ∧
    readAt 0x098 s = s.accCnt ∧ readAt 0x09C s = s.rejCnt ∧
    (readAt 0x0A0 s).toNat + 2 ^ 32 * (readAt 0x0A4 s).toNat = s.estMean.toNat ∧
    (readAt 0x0A8 s).toNat + 2 ^ 32 * (readAt 0x0AC s).toNat = s.estSd.toNat ∧
    (readAt 0x0B0 s).toNat + 2 ^ 32 * (readAt 0x0B4 s).toNat = s.estTmean.toNat ∧
    (readAt 0x0B8 s).toNat + 2 ^ 32 * (readAt 0x0BC s).toNat = s.estTsd.toNat ∧
    (readAt 0x0C0 s).toNat = s.estCount.toNat + 256 * kindNumber s.estKind

/-- R24, R29: CRC_RESULT is computed from CRC_STATE and the configuration in force, with WIDTH16, ALG, REFIN and REFOUT
in bits 0 to 3 of CRC_CFG: masked to W bits, reversed if REFOUT, then xor-out. -/
def Obligations.CrcResultIsComputedAtTheRead : Prop :=
  ∀ s : State,
    let p : CrcProfile := {
      width16 := s.crcCfg.getLsbD 0, alg := s.crcCfg.getLsbD 1, refin := s.crcCfg.getLsbD 2
      refout := s.crcCfg.getLsbD 3, poly := s.crcPoly, init := s.crcInit, xorout := s.crcXorout }
    (readAt 0x024 s).toNat = crcOutNat p s.crcState.toNat

/-- R24 to R27, R30 to R36, R47, R48: a write of a read-write register stores the low bits of the value in its field and
changes nothing else. -/
def Obligations.RegisterWritesStoreTheirField : Prop :=
  ∀ (s : State) (rest : List BusEvent) (v : Word),
    let run := fun o => step (s.facing (.write o .w32 v) rest)
    let t := s.served .written rest
    run 0x010 = .next { t with crcCfg := v.setWidth 4 } ∧ run 0x014 = .next { t with crcPoly := v.setWidth 16 } ∧
    run 0x018 = .next { t with crcInit := v.setWidth 16 } ∧ run 0x01C = .next { t with crcXorout := v.setWidth 16 } ∧
    run 0x040 = .next { t with frSlave := v.setWidth 8 } ∧ run 0x044 = .next { t with frFunc := v.setWidth 8 } ∧
    run 0x048 = .next { t with frStart := v.setWidth 16 } ∧ run 0x04C = .next { t with frCount := v.setWidth 16 } ∧
    run 0x050 = .next { t with frBpr := v.setWidth 8 } ∧ run 0x054 = .next { t with frValue := v.setWidth 16 } ∧
    run 0x058 = .next { t with frXfunc := v.setWidth 16 } ∧
    run 0x084 = .next { t with smpMaxdevLo := v } ∧ run 0x088 = .next { t with smpMaxdevHi := v } ∧
    run 0x08C = .next { t with smpPrim := v } ∧ run 0x090 = .next { t with smpTan := v }

/-- R40, R46, R229: RX_LEN stores min(v, 256); SMP_N stores v clamped to 2 to 255 and every write of it sets CURSOR to
0; nothing else changes. -/
def Obligations.RxLenAndSmpNStoreLegalValues : Prop :=
  ∀ (s : State) (rest : List BusEvent) (v : Word),
    (∃ t, step (s.facing (.write 0x068 .w32 v) rest) = .next t ∧
      t = { s.served .written rest with rxLen := t.rxLen } ∧ t.rxLen.toNat = min v.toNat 256) ∧
    (∃ t, step (s.facing (.write 0x080 .w32 v) rest) = .next t ∧
      t = { s.served .written rest with smpN := t.smpN, cursor := 0 } ∧
      t.smpN.toNat = if v.toNat < 2 then 2 else if v.toNat > 255 then 255 else v.toNat)

/-- R54, R44: a write of a read-only register or of the TX window changes nothing but the answer. -/
def Obligations.ReadOnlyWritesAreIgnored : Prop :=
  ∀ (s : State) (rest : List BusEvent) (v : Word) (o : Offset),
    (o ∈ ([0x004, 0x020, 0x024, 0x05C, 0x060, 0x064, 0x06C, 0x070, 0x074, 0x078, 0x094, 0x098, 0x09C, 0x0A0, 0x0A4,
        0x0A8, 0x0AC, 0x0B0, 0x0B4, 0x0B8, 0x0BC, 0x0C0] : List Offset) ∨
      (0x100 ≤ o.toNat ∧ o.toNat < 0x114 ∧ o.toNat % 4 = 0)) →
    step (s.facing (.write o .w32 v) rest) = .next (s.served .written rest)

/-- R54 (the ranges as 93_implementation_defined.md U10 lists them): a reserved offset reads 0 and ignores writes. -/
def Obligations.ReservedOffsetsReadZeroAndIgnoreWrites : Prop :=
  ∀ (s : State) (rest : List BusEvent) (v : Word) (o : Offset), o.toNat % 4 = 0 →
    ((0x008 ≤ o.toNat ∧ o.toNat < 0x010) ∨ (0x028 ≤ o.toNat ∧ o.toNat < 0x040) ∨ (0x07C ≤ o.toNat ∧ o.toNat < 0x080) ∨
      (0x0C4 ≤ o.toNat ∧ o.toNat < 0x100) ∨ (0x114 ≤ o.toNat ∧ o.toNat < 0x200) ∨ 0x300 ≤ o.toNat) →
    readAt o s = 0 ∧ step (s.facing (.write o .w32 v) rest) = .next (s.served .written rest)

/-- R45, R72: a write of word k of the RX window stores byte j of the word at RX[4k+j] and no other byte, and a read of
that word returns the value written. -/
def Obligations.RxWindowStoresFourBytes : Prop :=
  ∀ (s : State) (rest : List BusEvent) (v : Word) (k : Nat), s.rx.wf = true → k < 64 →
    ∃ t, step (s.facing (.write (BitVec.ofNat 12 (0x200 + 4 * k)) .w32 v) rest) = .next t ∧
      t = { s.served .written rest with rx := t.rx } ∧ t.rx.wf = true ∧
      (∀ i, t.rx.read i =
        if 4 * k ≤ i ∧ i < 4 * k + 4 then (v >>> (8 * (i - 4 * k))).setWidth 8 else s.rx.read i) ∧
      readAt (BitVec.ofNat 12 (0x200 + 4 * k)) t = v

/-- R44, R45, R72: byte j of window word k is byte 4k+j of the buffer, and TX[18] and TX[19] read as 0. -/
def Obligations.WindowWordsPackBytesLittleEndian : Prop :=
  ∀ (s : State) (k j : Nat), j < 4 →
    (k < 5 → (readAt (BitVec.ofNat 12 (0x100 + 4 * k)) s >>> (8 * j)).setWidth 8 =
      if 4 * k + j < 18 then s.tx.read (4 * k + j) else 0) ∧
    (k < 64 → (readAt (BitVec.ofNat 12 (0x200 + 4 * k)) s >>> (8 * j)).setWidth 8 = s.rx.read (4 * k + j))

/-- R71: an access of another width, or at an offset that is not a multiple of 4, is a bus error: the step faults, and
runs no command even at offset 0x000. -/
def Obligations.UnalignedOrNarrowAccessFaults : Prop :=
  ∀ (s : State) (rest : List BusEvent) (o : Offset) (width : AccessWidth) (v : Word),
    (width ≠ .w32 ∨ o.toNat % 4 ≠ 0) →
    step (s.facing (.read o width) rest) = .fault .busError ∧
    step (s.facing (.write o width v) rest) = .fault .busError

/-- R220: the platform asserts reset; an access made while it is asserted is refused; when it is deasserted, every piece of
state holds its reset value. The sample stores hold whatever they may (R52). That the assertion itself changes no other
field, and a line that stays low none, is the model's choice (log entry 6), and so is that the pending events, the answer
and the count of free values outlast the reset (log entries 8 and 22). -/
def Obligations.ResetLineRefusesThenResets : Prop :=
  ∀ (s : State) (rest : List BusEvent) (o : Offset) (width : AccessWidth) (v : Word),
    step { s with pending := .read o width :: rest, resetAsserted := true } = .refused .accessInReset ∧
    step { s with pending := .write o width v :: rest, resetAsserted := true } = .refused .accessInReset ∧
    step { s with pending := .resetLine true :: rest } = .next { s with pending := rest, resetAsserted := true } ∧
    step { s with pending := .resetLine false :: rest, resetAsserted := false } =
      .next { s with pending := rest, resetAsserted := false } ∧
    ∃ t, step { s with pending := .resetLine false :: rest, resetAsserted := true } = .next t ∧
      t = { State.reset with
        bufP := t.bufP, bufT := t.bufT, pending := rest, answer := s.answer, draws := t.draws }

/-- R221: what the registers read and the buffers hold right after reset. -/
def Obligations.ResetRegistersReadTheirValues : Prop :=
  (∀ p ∈ ([(0x000, 0), (0x004, 0), (0x010, 0x3), (0x014, 0xA001), (0x018, 0xFFFF), (0x01C, 0), (0x020, 0xFFFF),
      (0x024, 0xFFFF), (0x040, 0), (0x044, 0x03), (0x048, 0), (0x04C, 0), (0x050, 0), (0x054, 0), (0x058, 0x5251),
      (0x05C, 0), (0x060, 5), (0x064, 0), (0x068, 0), (0x06C, 0), (0x070, 0), (0x074, 0), (0x078, 0), (0x080, 30),
      (0x084, 0xC28F5C29), (0x088, 0x3FF028F5), (0x08C, 0), (0x090, 0), (0x094, 0), (0x098, 0), (0x09C, 0), (0x0A0, 0),
      (0x0A4, 0), (0x0A8, 0), (0x0AC, 0), (0x0B0, 0), (0x0B4, 0), (0x0B8, 0), (0x0BC, 0), (0x0C0, 0)]
        : List (Offset × Word)), readAt p.1 State.reset = p.2) ∧
  (∀ i, State.reset.tx.read i = 0x00) ∧ (∀ i, State.reset.rx.read i = 0x00)

/-- R70: BASE is a multiple of 4096 (whatever the platform's choice), offset o of the window is at bus address BASE + o,
and an address outside the window selects nothing. -/
def Obligations.BusAddressesSelectWindowOffsets : Prop :=
  busBase % 4096 = 0 ∧ (∀ o : Offset, busAddress o = busBase + o.toNat ∧ offsetOf (busAddress o) = some o) ∧
  (∀ a : Nat, offsetOf a = none ↔ a < busBase ∨ busBase + 4096 ≤ a)

/-- R102, R103: `RXLOAD b0, ..., b(n-1)`, n at most 256, leaves the n bytes in RX[0 .. n-1] and n in RX_LEN, zeros in the
bytes that fill its last word, every later byte of RX as it was, and changes nothing else. -/
def Obligations.RxloadPlacesTheFrame : Prop :=
  ∀ (s : State) (rest : List BusEvent) (bs : List Byte), s.rx.wf = true → bs.length ≤ 256 →
    ∃ t, Host.Core.run Sys2Proof.core ((bs.length + 3) / 4 + 1)
        { s with pending := asmRxload bs ++ rest, resetAsserted := false } = .next t ∧
      t = { s.served .written rest with rx := t.rx, rxLen := t.rxLen } ∧
      t.rxLen.toNat = bs.length ∧ rxFrame t = bs ∧
      ∀ i, bs.length ≤ i → t.rx.read i = if i < 4 * ((bs.length + 3) / 4) then 0x00 else s.rx.read i

/-! ## Result codes and the whole machine (60_exceptions.md) -/

/-- R200, R204: every command, whatever the state, ends with a next state. It touches neither the pending events, nor the
answer, nor the reset line: these are the model's fields for the host and the platform, and that SOFT_RESET keeps them is
the model's choice (log entry 22). -/
def Obligations.EveryCommandEnds : Prop :=
  ∀ (i : Instr) (s : State), ∃ t, exec i s = .next t ∧ t.pending = s.pending ∧ t.answer = s.answer ∧
    t.resetAsserted = s.resetAsserted

/-- R71, R74, R204: the engine serves every event but a bus error and an access during reset. -/
def Obligations.ServedEventsNeverStop : Prop :=
  ∀ s : State, s.Serves → ∃ t, step s = .next t

/-- R202, R203: after a command ERR is 1 exactly when its code is an error code (0x01 to 0x3F), or ERR was 1 and the
command is neither CLEAR_STATUS nor SOFT_RESET. -/
def Obligations.ErrIsStickyUntilCleared : Prop :=
  ∀ (i : Instr) (s t : State), exec i s = .next t →
    (t.err = true ↔
      (1 ≤ (resultByte t.lastResult).toNat ∧ (resultByte t.lastResult).toNat ≤ 0x3F) ∨
      (s.err = true ∧ opcode i ≠ 0x3E ∧ opcode i ≠ 0x3F))

/-- R205: a failing command changes STATUS only, and VALIDATE_RTU besides sets VAL_PL_LEN to 0. -/
def Obligations.ErrorsArePrecise : Prop :=
  ∀ (i : Instr) (s t : State), exec i s = .next t →
    (1 ≤ (resultByte t.lastResult).toNat ∧ (resultByte t.lastResult).toNat ≤ 0x3F) →
    t = { s with
      valPlLen := if opcode i = 0x20 then 0 else s.valPlLen
      lastResult := t.lastResult
      err := true }

/-- R200, column "raised by": the codes each command can end with. -/
def Obligations.CommandsEndWithTheirCodes : Prop :=
  ∀ (i : Instr) (s t : State), exec i s = .next t →
    t.lastResult ∈ match i with
      | .crcLoadProfile _ => [ResultCode.ok, .badArg]
      | .validateRtu _ =>
        [.ok, .frameTooShort, .crcMismatch, .addressMismatch, .bcUnsupported, .bcSlaveError, .funcCountMismatch]
      | .extractF32 _ => [.ok, .extractRange]
      | .extractU16 _ => [.ok, .extractRange]
      | .mmkDecode _ =>
        [.ok, .mmkBadStart, .mmkBadStuff, .mmkNoEnd, .mmkTrailing, .mmkBadLength, .mmkCrcMismatch]
      | .smpAdd _ => [.ok, .badArg, .fillAccepted, .fillRejected]
      | _ => [.ok]

/-- R28, R44 to R52, R113, R136, R175, R178, R180, R192, R226, R227: which commands may change which state. TX by the
builders; VAL_PL_LEN by VALIDATE_RTU; EXT_WORD by the extractions; MMK_DEC by MMK_DECODE; the CRC configuration by
CRC_LOAD_PROFILE; CRC_STATE by the CRC commands; the batch by SMP_ADD and SMP_CLEAR; the estimates by SMP_ADD; all of it,
and alone RX, the descriptor and the sampler's inputs, by SOFT_RESET. That SMP_ADD may write the EST registers follows R178
and R51 against R192's sentence that only SOFT_RESET writes them: the model's reading, log entry 23. -/
def Obligations.CommandsChangeOnlyTheirUnit : Prop :=
  ∀ (i : Instr) (s t : State), exec i s = .next t → opcode i ≠ 0x3F →
    (opcode i ∉ ([0x10, 0x11, 0x12] : List Byte) → t.tx = s.tx ∧ t.txLen = s.txLen) ∧
    (opcode i ≠ 0x20 → t.valPlLen = s.valPlLen) ∧
    (opcode i ∉ ([0x21, 0x22] : List Byte) → t.extWord = s.extWord) ∧
    (opcode i ≠ 0x23 → t.mmkDec0 = s.mmkDec0 ∧ t.mmkDec1 = s.mmkDec1) ∧
    (opcode i ≠ 0x03 → t.crcCfg = s.crcCfg ∧ t.crcPoly = s.crcPoly ∧ t.crcInit = s.crcInit ∧
      t.crcXorout = s.crcXorout) ∧
    (opcode i ∉ ([0x01, 0x02, 0x03, 0x04] : List Byte) → t.crcState = s.crcState) ∧
    (opcode i ∉ ([0x30, 0x31] : List Byte) → t.cursor = s.cursor ∧ t.kind = s.kind ∧ t.kindValid = s.kindValid) ∧
    (opcode i ≠ 0x30 → t.bufP = s.bufP ∧ t.bufT = s.bufT ∧ t.estValid = s.estValid ∧ t.lastFillRej = s.lastFillRej ∧
      t.accCnt = s.accCnt ∧ t.rejCnt = s.rejCnt ∧ t.estMean = s.estMean ∧ t.estSd = s.estSd ∧
      t.estTmean = s.estTmean ∧ t.estTsd = s.estTsd ∧ t.estCount = s.estCount ∧ t.estKind = s.estKind) ∧
    t.rx = s.rx ∧ t.rxLen = s.rxLen ∧ t.frSlave = s.frSlave ∧ t.frFunc = s.frFunc ∧ t.frStart = s.frStart ∧
    t.frCount = s.frCount ∧ t.frBpr = s.frBpr ∧ t.frValue = s.frValue ∧ t.frXfunc = s.frXfunc ∧ t.smpN = s.smpN ∧
    t.smpMaxdevLo = s.smpMaxdevLo ∧ t.smpMaxdevHi = s.smpMaxdevHi ∧ t.smpPrim = s.smpPrim ∧ t.smpTan = s.smpTan

/-- R201: a bus access that is not a write of CMD changes neither LAST_RESULT nor ERR. -/
def Obligations.OnlyCommandsChangeStatus : Prop :=
  ∀ (s t : State) (e : BusEvent) (rest : List BusEvent), s.pending = e :: rest →
    (∀ v, e ≠ .write 0x000 .w32 v) → (∀ b, e ≠ .resetLine b) → step s = .next t →
    t.lastResult = s.lastResult ∧ t.err = s.err

/-- Every step, from every state with the invariant, gives a state with the invariant: the buffers keep their canonical
form and size, TX past the frame stays 0 (R130), RX_LEN, SMP_N and VAL_PL_LEN stay in range (R40, R46, R41), the cursor
stays below N (R49, R181 (2)), MMK_DEC1's reserved bits read 0 (R43), the estimate stays 0 until a fill is accepted
(R51), and an error keeps ERR set (R202). -/
def Obligations.EveryStepKeepsTheInvariant : Prop :=
  ∀ s t : State, s.Inv → step s = .next t → t.Inv

/-- The invariant holds right after reset (R221). -/
def Obligations.ResetStateHasTheInvariant : Prop :=
  State.reset.Inv

/-- R52, R53, R222: sample slots at or above the cursor are never observed. Two states that differ in nothing else stay
so through every step and every run, with the same answers, faults and refusals; so the state after reset cannot be told
from one with other contents in its sample stores. -/
def Obligations.StaleSampleSlotsAreUnobservable : Prop :=
  (∀ s t : State, s.Agree t → outcomesAgree (step s) (step t)) ∧
  (∀ (k : Nat) (s t : State), s.Agree t →
    outcomesAgree (Host.Core.run Sys2Proof.core k s) (Host.Core.run Sys2Proof.core k t)) ∧
  (∀ p q : Store, State.reset.Agree { State.reset with bufP := p, bufT := q })

/-! ## Control commands (45_control.md) -/

/-- R190, R191: NOP, OP 0x00, only sets LAST_RESULT to OK, and keeps ERR; CLEAR_STATUS, OP 0x3E, only clears STATUS. -/
def Obligations.NopAndClearStatusTouchOnlyStatus : Prop :=
  ∀ (a : Byte) (s : State),
    decode (commandWord 0x00 a) = .ok (.nop a) ∧ decode (commandWord 0x3E a) = .ok (.clearStatus a) ∧
    exec (.nop a) s = .next { s with lastResult := .ok } ∧
    exec (.clearStatus a) s = .next { s with lastResult := .ok, err := false }

/-- R192, R222: SOFT_RESET leaves exactly the reset state, with unspecified sample stores. That the host's pending
events, the answer, the reset line and the count of free values are not the engine's to reset is the model's choice (log
entries 8 and 22). -/
def Obligations.SoftResetLeavesTheResetState : Prop :=
  ∀ (a : Byte) (s : State), ∃ t, exec (.softReset a) s = .next t ∧
    t = { State.reset with
      bufP := t.bufP, bufT := t.bufT, resetAsserted := s.resetAsserted, pending := s.pending, answer := s.answer,
      draws := t.draws }

/-! ## CRC unit (41_crc.md) -/

/-- R110: CRC_START, OP 0x01, loads INIT masked to W bits into CRC_STATE and ends with OK; nothing else changes. -/
def Obligations.CrcStartLoadsMaskedInit : Prop :=
  ∀ (a : Byte) (s : State), decode (commandWord 0x01 a) = .ok (.crcStart a) ∧ ∃ t, exec (.crcStart a) s = .next t ∧
    t = { s with crcState := t.crcState, lastResult := .ok } ∧
    t.crcState.toNat = s.crcInit.toNat % 2 ^ (if s.crcCfg.getLsbD 0 then 16 else 8)

/-- R24, R111, R112: CRC_FEED, OP 0x02, takes CRC_STATE through `crc_step` with the byte ARG, under the configuration the
registers hold (WIDTH16, ALG, REFIN and REFOUT in bits 0 to 3 of CRC_CFG), and ends with OK; nothing else changes. -/
def Obligations.CrcFeedIsOneCrcStep : Prop :=
  ∀ (a : Byte) (s : State), decode (commandWord 0x02 a) = .ok (.crcFeed a) ∧
    let p : CrcProfile := {
      width16 := s.crcCfg.getLsbD 0, alg := s.crcCfg.getLsbD 1, refin := s.crcCfg.getLsbD 2
      refout := s.crcCfg.getLsbD 3, poly := s.crcPoly, init := s.crcInit, xorout := s.crcXorout }
    ∃ t, exec (.crcFeed a) s = .next t ∧
      t = { s with crcState := t.crcState, lastResult := .ok } ∧
      t.crcState.toNat = crcStepNat p s.crcState.toNat a.toNat

/-- R113: CRC_LOAD_PROFILE, OP 0x03, loads the RTU profile for ARG 0 and the MMK profile for ARG 1, with CRC_STATE = INIT; every
other ARG is BAD_ARG and changes no register. -/
def Obligations.CrcLoadProfileLoadsOrRefuses : Prop :=
  ∀ s : State, (∀ a, decode (commandWord 0x03 a) = .ok (.crcLoadProfile a)) ∧
    exec (.crcLoadProfile 0) s = .next { s with
      crcCfg := 0x3, crcPoly := 0xA001, crcInit := 0xFFFF, crcXorout := 0x0000, crcState := 0xFFFF,
      lastResult := .ok } ∧
    exec (.crcLoadProfile 1) s = .next { s with
      crcCfg := 0x1, crcPoly := 0x8005, crcInit := 0x0000, crcXorout := 0x0000, crcState := 0x0000,
      lastResult := .ok } ∧
    ∀ a : Byte, 2 ≤ a.toNat → exec (.crcLoadProfile a) s = .next { s with lastResult := .badArg, err := true }

/-- R24, R114: CRC_COMPUTE_RX, OP 0x04, starts from INIT masked to W bits and takes one `crc_step` for each byte of
RX[0 .. RX_LEN-1], under the configuration the registers hold (WIDTH16, ALG, REFIN and REFOUT in bits 0 to 3 of CRC_CFG);
it ends with OK and changes nothing else. -/
def Obligations.CrcComputeRxFoldsTheFrame : Prop :=
  ∀ (a : Byte) (s : State), decode (commandWord 0x04 a) = .ok (.crcComputeRx a) ∧
    let p : CrcProfile := {
      width16 := s.crcCfg.getLsbD 0, alg := s.crcCfg.getLsbD 1, refin := s.crcCfg.getLsbD 2
      refout := s.crcCfg.getLsbD 3, poly := s.crcPoly, init := s.crcInit, xorout := s.crcXorout }
    ∃ t, exec (.crcComputeRx a) s = .next t ∧
      t = { s with crcState := t.crcState, lastResult := .ok } ∧
      t.crcState.toNat =
        ((List.range s.rxLen.toNat).map fun i => (s.rx.read i).toNat).foldl (crcStepNat p)
          (s.crcInit.toNat % 2 ^ crcWidth p)

/-- R24, R115: CRC_START and one CRC_FEED for each byte of RX[0 .. RX_LEN-1] leave the very state CRC_COMPUTE_RX leaves, and
CRC_RESULT then reads `compute` of those bytes: `crc_step` for each byte from INIT masked to W bits, then output reflection
and xor-out, with WIDTH16, ALG, REFIN and REFOUT in bits 0 to 3 of CRC_CFG. -/
def Obligations.FeedingBytesEqualsComputeRx : Prop :=
  ∀ (a b : Byte) (s : State),
    let p : CrcProfile := {
      width16 := s.crcCfg.getLsbD 0, alg := s.crcCfg.getLsbD 1, refin := s.crcCfg.getLsbD 2
      refout := s.crcCfg.getLsbD 3, poly := s.crcPoly, init := s.crcInit, xorout := s.crcXorout }
    ∃ t,
      execAll (.crcStart a :: (List.range s.rxLen.toNat).map fun i => .crcFeed (s.rx.read i)) s = some t ∧
      exec (.crcComputeRx b) s = .next t ∧
      (readAt 0x024 t).toNat = crcOutNat p
        (((List.range s.rxLen.toNat).map fun i => (s.rx.read i).toNat).foldl (crcStepNat p)
          (s.crcInit.toNat % 2 ^ crcWidth p))

/-- R115, R117: CRC_RTU and CRC_MMK are `compute` with their fixed profiles, one `crc_step` for each byte from the initial
value, and give the check values for "123456789". -/
def Obligations.FixedCrcFunctionsUseTheirProfiles : Prop :=
  (∀ d : List Byte,
    (crcRtu d).toNat = (d.map BitVec.toNat).foldl (crcStepNat ⟨true, true, false, false, 0xA001, 0xFFFF, 0x0000⟩) 0xFFFF ∧
    (crcMmk d).toNat = (d.map BitVec.toNat).foldl (crcStepNat ⟨true, false, false, false, 0x8005, 0x0000, 0x0000⟩) 0) ∧
  crcRtu [0x31, 0x32, 0x33, 0x34, 0x35, 0x36, 0x37, 0x38, 0x39] = 0x4B37 ∧
  crcMmk [0x31, 0x32, 0x33, 0x34, 0x35, 0x36, 0x37, 0x38, 0x39] = 0xFEE8

/-- R116 (d): appending its own CRC, in the order of its frame, gives CRC 0. -/
def Obligations.AppendedCrcLeavesResidueZero : Prop :=
  ∀ d : List Byte,
    crcRtu (d ++ [(crcRtu d).setWidth 8, (crcRtu d >>> 8).setWidth 8]) = 0x0000 ∧
    crcMmk (d ++ [(crcMmk d >>> 8).setWidth 8, (crcMmk d).setWidth 8]) = 0x0000

/-- R116 (b) and (c): the two algorithms compute the same CRCs, with the constants reversed and the reflection flags
exchanged. -/
def Obligations.TheTwoAlgorithmsMirrorEachOther : Prop :=
  ∀ (w16 : Bool) (poly init xorout : Half) (d : List Byte),
    let msb : Bool → CrcProfile := fun r => ⟨w16, false, r, r, poly, init, xorout⟩
    let lsb : Bool → CrcProfile := fun r => ⟨w16, true, r, r, (msb r).revW poly, (msb r).revW init, xorout⟩
    (lsb false).compute d = (msb true).compute d ∧ (lsb true).compute d = (msb false).compute d

/-! ## Request builders (42_framer.md) -/

/-- R96, R97, R130 to R132: BUILD_RTU_READ, OP 0x10, and BUILD_RTU_WRITE, OP 0x11, put the six descriptor bytes and their CRC_RTU, low byte
first, into TX, zeros up to TX[17], and 8 into TX_LEN; they end with OK and change nothing else. -/
def Obligations.RtuBuildersEmitTheirFrames : Prop :=
  ∀ (a : Byte) (s : State), s.tx.wf = true →
    let hi := fun h : Half => (h >>> 8).setWidth 8
    let lo := fun h : Half => h.setWidth 8
    let frame := fun x : Half =>
      let f : List Byte := [s.frSlave, s.frFunc, hi s.frStart, lo s.frStart, hi x, lo x]
      f ++ [lo (crcRtu f), hi (crcRtu f)]
    let built := fun (f : List Byte) (t : State) =>
      t = { s with tx := t.tx, txLen := 8, lastResult := .ok } ∧
      ∀ i, t.tx.read i = if i < 18 then f.getD i 0x00 else s.tx.read i
    decode (commandWord 0x10 a) = .ok (.buildRtuRead a) ∧ decode (commandWord 0x11 a) = .ok (.buildRtuWrite a) ∧
    (∃ t, exec (.buildRtuRead a) s = .next t ∧ built (frame s.frCount) t) ∧
    (∃ t, exec (.buildRtuWrite a) s = .next t ∧ built (frame s.frValue) t)

/-- R99, R100, R130, R133, R134: BUILD_MMK, OP 0x12, puts the start marker, the seven payload bytes with every 0x10 doubled and the
end marker into TX, zeros up to TX[17], and the length, 11 and one for each 0x10 of the payload, into TX_LEN; it ends with
OK and changes nothing else. -/
def Obligations.MmkBuilderEmitsTheStuffedFrame : Prop :=
  ∀ (a : Byte) (s : State), s.tx.wf = true →
    let f : List Byte := [s.frSlave, s.frFunc, (s.frStart >>> 8).setWidth 8, s.frStart.setWidth 8, s.frCount.setWidth 8]
    let p : List Byte := f ++ [(crcMmk f >>> 8).setWidth 8, (crcMmk f).setWidth 8]
    let frame : List Byte := [0x10, 0x02] ++ p.flatMap (fun b => if b = 0x10 then [0x10, 0x10] else [b]) ++ [0x10, 0x04]
    decode (commandWord 0x12 a) = .ok (.buildMmk a) ∧
    ∃ t, exec (.buildMmk a) s = .next t ∧
      t = { s with tx := t.tx, txLen := t.txLen, lastResult := .ok } ∧
      t.txLen.toNat = 11 + p.count 0x10 ∧ t.txLen.toNat = frame.length ∧
      ∀ i, t.tx.read i = if i < 18 then frame.getD i 0x00 else s.tx.read i

/-- R135: no descriptor gives an MMK frame of more than 16 bytes. -/
def Obligations.MmkFramesNeverExceedSixteenBytes : Prop :=
  ∀ (a : Byte) (s : State), ∃ t, exec (.buildMmk a) s = .next t ∧ 11 ≤ t.txLen.toNat ∧ t.txLen.toNat ≤ 16

/-! ## Parser (43_parser.md) -/

/-- R151: VALIDATE_RTU, OP 0x20, reports the first failure of the checks (a) to (e), in that order; VAL_PL_LEN gets D on a pass and
0 on an error; nothing else but STATUS changes. -/
def Obligations.ValidateReportsTheFirstFailure : Prop :=
  ∀ (a : Byte) (s : State),
    let len := s.rxLen.toNat
    let r := fun i => s.rx.read i
    let d := s.frCount.toNat * s.frBpr.toNat
    let c := crcRtu ((List.range (len - 2)).map r)
    let code : ResultCode :=
      if len < 5 then .frameTooShort
      else if r (len - 2) ≠ c.setWidth 8 ∨ r (len - 1) ≠ (c >>> 8).setWidth 8 then .crcMismatch
      else if r 0 ≠ s.frSlave then .addressMismatch
      else if len ≠ 5 + d ∧ (r 1 = s.frXfunc.setWidth 8 ∨ r 1 = (s.frXfunc >>> 8).setWidth 8) then .bcUnsupported
      else if len ≠ 5 + d then .bcSlaveError
      else if r 1 ≠ s.frFunc ∨ (r 2).toNat ≠ d then .funcCountMismatch
      else .ok
    decode (commandWord 0x20 a) = .ok (.validateRtu a) ∧
    exec (.validateRtu a) s = .next { s with
      valPlLen := if code = ResultCode.ok then BitVec.ofNat 8 d else 0
      lastResult := code
      err := s.err || decide (code ≠ ResultCode.ok) }

/-- R151, R152, R157 (7): VALIDATE_RTU passes exactly when the frame has at least 5 bytes, the residue of all its bytes is
0, and address, length, function byte and count byte are the descriptor's; VAL_PL_LEN is then D and RX_LEN is 5 + D, so
the payload lies inside RX wherever RX_LEN is at most 256, as the invariant says it is. -/
def Obligations.ValidatePassesExactlyOnConsistentFrames : Prop :=
  ∀ (a : Byte) (s : State),
    let d := s.frCount.toNat * s.frBpr.toNat
    ∃ t, exec (.validateRtu a) s = .next t ∧
      (t.lastResult = .ok ↔
        5 ≤ s.rxLen.toNat ∧ crcRtu (rxFrame s) = 0 ∧ s.rx.read 0 = s.frSlave ∧ s.rxLen.toNat = 5 + d ∧
        s.rx.read 1 = s.frFunc ∧ (s.rx.read 2).toNat = d) ∧
      (t.lastResult = .ok → t.valPlLen.toNat = d ∧ 3 + t.valPlLen.toNat + 2 = s.rxLen.toNat) ∧
      (t.lastResult ≠ .ok → t.valPlLen = 0)

/-- R156 (2): a second VALIDATE_RTU on the same buffer and descriptor changes nothing. -/
def Obligations.ValidateIsIdempotent : Prop :=
  ∀ (a b : Byte) (s t : State), exec (.validateRtu a) s = .next t → exec (.validateRtu b) t = .next t

/-- R101, R153: EXTRACT_F32, OP 0x21, takes the four payload bytes at offset k, the first the most significant, when they lie inside
the payload; otherwise it ends with EXTRACT_RANGE and EXT_WORD stays. Nothing else changes. -/
def Obligations.ExtractF32TakesBigEndianBytes : Prop :=
  ∀ (k : Byte) (s : State), decode (commandWord 0x21 k) = .ok (.extractF32 k) ∧ ∃ t, exec (.extractF32 k) s = .next t ∧
    if k.toNat + 4 > s.valPlLen.toNat then t = { s with lastResult := .extractRange, err := true }
    else t = { s with extWord := t.extWord, lastResult := .ok } ∧
      t.extWord.toNat = (s.rx.read (3 + k.toNat)).toNat * 2 ^ 24 + (s.rx.read (4 + k.toNat)).toNat * 2 ^ 16 +
        (s.rx.read (5 + k.toNat)).toNat * 2 ^ 8 + (s.rx.read (6 + k.toNat)).toNat

/-- R101, R154: EXTRACT_U16, OP 0x22, takes the two payload bytes at offset k, the first the more significant, zero-extended, when
they lie inside the payload; otherwise it ends with EXTRACT_RANGE and EXT_WORD stays. Nothing else changes. -/
def Obligations.ExtractU16TakesBigEndianBytes : Prop :=
  ∀ (k : Byte) (s : State), decode (commandWord 0x22 k) = .ok (.extractU16 k) ∧ ∃ t, exec (.extractU16 k) s = .next t ∧
    if k.toNat + 2 > s.valPlLen.toNat then t = { s with lastResult := .extractRange, err := true }
    else t = { s with extWord := t.extWord, lastResult := .ok } ∧
      t.extWord.toNat = (s.rx.read (3 + k.toNat)).toNat * 2 ^ 8 + (s.rx.read (4 + k.toNat)).toNat

/-- R99, R100, R155: MMK_DECODE ends with OK exactly on the frames that encapsulate five bytes and their CRC_MMK, and
then MMK_DEC0 and MMK_DEC1 hold those bytes and that CRC; nothing else but STATUS changes. -/
def Obligations.MmkDecodeAcceptsExactlyEncapsulatedFrames : Prop :=
  ∀ (a : Byte) (s : State), ∃ t, exec (.mmkDecode a) s = .next t ∧
    (t.lastResult = .ok ↔ ∃ b0 b1 b2 b3 b4 : Byte, rxFrame s = mmkFrame (withMmkCrc [b0, b1, b2, b3, b4])) ∧
    ∀ b0 b1 b2 b3 b4 : Byte, rxFrame s = mmkFrame (withMmkCrc [b0, b1, b2, b3, b4]) →
      t = { s with
        mmkDec0 := b3 ++ b2 ++ b1 ++ b0
        mmkDec1 := crcMmk [b0, b1, b2, b3, b4] ++ (0 : Byte) ++ b4
        lastResult := .ok }

/-- R155: each way a frame can be malformed, and the code of it; MMK_DEC0 and MMK_DEC1 stay. `p` is the un-stuffed payload
met so far. -/
def Obligations.MmkDecodeNamesEveryMalformedFrame : Prop :=
  ∀ (a : Byte) (s : State) (p : List Byte),
    let ends := fun c : ResultCode => exec (.mmkDecode a) s = .next { s with lastResult := c, err := true }
    ((∀ r, rxFrame s ≠ 0x10 :: 0x02 :: r) → ends .mmkBadStart) ∧
    (rxFrame s = [0x10, 0x02] ++ stuff p → ends .mmkNoEnd) ∧
    (rxFrame s = [0x10, 0x02] ++ stuff p ++ [0x10] → ends .mmkNoEnd) ∧
    (∀ (y : Byte) (r : List Byte), y ≠ 0x10 → y ≠ 0x04 → rxFrame s = [0x10, 0x02] ++ stuff p ++ 0x10 :: y :: r →
      ends .mmkBadStuff) ∧
    (∀ (y : Byte) (r : List Byte), rxFrame s = mmkFrame p ++ y :: r → ends .mmkTrailing) ∧
    (rxFrame s = mmkFrame p → p.length ≠ 7 → ends .mmkBadLength) ∧
    (rxFrame s = mmkFrame p → p.length = 7 → withMmkCrc (p.take 5) ≠ p → ends .mmkCrcMismatch)

/-- R156 (1): whatever the descriptor, a frame built by BUILD_MMK and copied from TX to RX decodes with OK, and MMK_DEC0
and MMK_DEC1 hold the descriptor's slave address, function code, start address and low count byte, and the payload's CRC
bytes. -/
def Obligations.MmkFramesDecodeToTheirDescriptor : Prop :=
  ∀ (a b : Byte) (s t u : State), s.tx.wf = true → exec (.buildMmk a) s = .next t →
    u.rxLen.toNat = t.txLen.toNat → (∀ i, i < t.txLen.toNat → u.rx.read i = t.tx.read i) →
    exec (.mmkDecode b) u = .next { u with
      mmkDec0 := s.frStart.setWidth 8 ++ ((s.frStart >>> 8).setWidth 8 : Byte) ++ s.frFunc ++ s.frSlave
      mmkDec1 := crcMmk [s.frSlave, s.frFunc, (s.frStart >>> 8).setWidth 8, s.frStart.setWidth 8,
        s.frCount.setWidth 8] ++ (0 : Byte) ++ s.frCount.setWidth 8
      lastResult := .ok }

/-! ## Sampler (44_sampler.md) -/

/-- R175: SMP_ADD with ARG[7:2] not 0 ends with BAD_ARG and changes nothing else. -/
def Obligations.SmpAddRefusesBadKinds : Prop :=
  ∀ (a : Byte) (s : State), 4 ≤ a.toNat → exec (.smpAdd a) s = .next { s with lastResult := .badArg, err := true }

/-- R175, R181 (4): SMP_ADD of kind k stores the two widened values at the cursor, or at slot 0 after a kind switch,
makes k the active kind, and, while the batch is not full, advances the cursor and ends with OK; nothing else changes. A
NaN is stored as a NaN of open sign and payload. -/
def Obligations.SmpAddStoresASample : Prop :=
  ∀ (k : ChannelKind) (s : State),
    let c := if s.kindValid = true ∧ s.kind ≠ k then 0 else s.cursor.toNat
    c + 1 < s.smpN.toNat →
    ∃ t, exec (.smpAdd ((kindBits k).setWidth 8)) s = .next t ∧
      t = { s with
        cursor := t.cursor, kind := k, kindValid := true, bufP := t.bufP, bufT := t.bufT, lastResult := .ok,
        draws := t.draws } ∧
      t.cursor.toNat = c + 1 ∧
      F64.ofBits (t.bufP.slot c) = F64.ofBits32 s.smpPrim ∧ F64.ofBits (t.bufT.slot c) = F64.ofBits32 s.smpTan ∧
      ∀ i, i ≠ c → t.bufP.slot i = s.bufP.slot i ∧ t.bufT.slot i = s.bufT.slot i

/-- R172 to R176, R178, R179: the SMP_ADD that completes a batch stores its sample, sets the cursor to 0, and either
rejects the batch (LAST_FILL_REJ and the counter of rejected fills, nothing of the estimate) or accepts it (the four
results, EST_INFO, EST_VALID, LAST_FILL_REJ and the counter of accepted fills); neither sets ERR, and nothing else changes.
The mean is the sum from +0.0 in index order over N, the standard deviation the square root of the sum of the squared
deviations, from +0.0 in index order, over N - 1, and the batch is rejected when some member's magnitude exceeds the mean
times MAXDEV. A NaN result has open sign and payload. -/
def Obligations.SmpAddCompletesABatch : Prop :=
  ∀ (k : ChannelKind) (s : State), s.cursor.toNat < s.smpN.toNat →
    let n := s.smpN.toNat
    let c := if s.kindValid = true ∧ s.kind ≠ k then 0 else s.cursor.toNat
    let plusZero := F64.ofBits 0x0000000000000000
    let meanOf := fun xs : List F64 => (xs.foldl F64.add plusZero).div (F64.ofNat n)
    let sdOf := fun xs : List F64 =>
      ((xs.foldl (fun a x => a.add ((x.sub (meanOf xs)).mul (x.sub (meanOf xs)))) plusZero).div (F64.ofNat (n - 1))).sqrt
    n ≤ c + 1 →
    (F64.ofNat n).Denotes n ∧ (F64.ofNat (n - 1)).Denotes (n - 1 : Nat) ∧
    ∃ t, exec (.smpAdd ((kindBits k).setWidth 8)) s = .next t ∧
      F64.ofBits (t.bufP.slot c) = F64.ofBits32 s.smpPrim ∧ F64.ofBits (t.bufT.slot c) = F64.ofBits32 s.smpTan ∧
      (∀ i, i ≠ c → t.bufP.slot i = s.bufP.slot i ∧ t.bufT.slot i = s.bufT.slot i) ∧
      let p := (List.range n).map fun i => F64.ofBits (t.bufP.slot i)
      let q := (List.range n).map fun i => F64.ofBits (t.bufT.slot i)
      let exceeds := ∃ x ∈ p, x.abs.gt ((meanOf p).mul (F64.ofBits (s.smpMaxdevHi ++ s.smpMaxdevLo))) = true
      (exceeds →
        t = { s with
          cursor := 0, kind := k, kindValid := true, bufP := t.bufP, bufT := t.bufT, draws := t.draws,
          lastFillRej := true, rejCnt := s.rejCnt + 1, lastResult := .fillRejected }) ∧
      (¬exceeds →
        t = { s with
          cursor := 0, kind := k, kindValid := true, bufP := t.bufP, bufT := t.bufT, draws := t.draws,
          estMean := t.estMean, estSd := t.estSd, estTmean := t.estTmean, estTsd := t.estTsd, estCount := s.smpN,
          estKind := k, estValid := true, lastFillRej := false, accCnt := s.accCnt + 1, lastResult := .fillAccepted } ∧
        F64.ofBits t.estMean = meanOf p ∧ F64.ofBits t.estSd = sdOf p ∧
        F64.ofBits t.estTmean = meanOf q ∧ F64.ofBits t.estTsd = sdOf q)

/-- R180: SMP_CLEAR, OP 0x31, sets the cursor, KIND and KIND_VALID to 0 and ends with OK; nothing else changes. -/
def Obligations.SmpClearForgetsTheBatch : Prop :=
  ∀ (a : Byte) (s : State), decode (commandWord 0x31 a) = .ok (.smpClear a) ∧
    exec (.smpClear a) s = .next { s with cursor := 0, kind := .r, kindValid := false, lastResult := .ok }

/-- R177 (5) and (7): a batch with a NaN member has a NaN mean and standard deviation and is not rejected, and a NaN
MAXDEV rejects no batch. -/
def Obligations.NaNsNeverRejectABatch : Prop :=
  (∀ (xs : List F64) (maxdev : F64), F64.nan ∈ xs →
    mean xs = .nan ∧ stdDev xs (mean xs) = .nan ∧ rejected xs (mean xs) maxdev = false) ∧
  (∀ (xs : List F64) (m : F64), rejected xs m .nan = false)

/-- R177 (3): with a finite MAXDEV of at least 1, the reset MAXDEV 1.01 among them, a batch with a negative mean and at
least one member that is no NaN is rejected. -/
def Obligations.NegativeMeanIsRejected : Prop :=
  (∃ y : ℝ, (F64.ofBits 0x3FF028F5C28F5C29).Denotes y ∧ 1 ≤ y) ∧
  ∀ (w : DWord) (y : ℝ), (F64.ofBits w).Denotes y → 1 ≤ y → ∀ (xs : List F64) (x : F64), x ∈ xs → x ≠ .nan →
    (∀ (m : Nat) (e : Int), 0 < m → m < 2 ^ 53 → F64.minExp ≤ e → e ≤ F64.maxExp →
      rejected xs (.fin true m e) (F64.ofBits w) = true) ∧
    rejected xs (.inf true) (F64.ofBits w) = true

/-- R10: `f64` and `bits64` are inverse to each other but for NaNs; the model's NaN patterns are NaNs whatever the free
bits (R171), and every NaN pattern is one of them. -/
def Obligations.Binary64PatternsRoundTrip : Prop :=
  (∀ w b : DWord, F64.ofBits w ≠ .nan → (F64.ofBits w).toBits b = w) ∧
  (∀ b : DWord, F64.ofBits (nanPattern b) = .nan ∧ F64.ofBits (quietNaNPattern b) = .nan ∧
    (quietNaNPattern b).getLsbD 51 = true) ∧
  (∀ w : DWord, F64.ofBits w = .nan → nanPattern w = w)

/-- R10, R181 (5): widening a binary32 pattern is exact: the binary64 value is the binary32 value, subnormals included,
with the same sign bit, that of a zero included; infinities stay infinities and NaNs stay NaNs. -/
def Obligations.WideningIsExact : Prop :=
  ∀ (w : Word) (b : DWord),
    let neg := w.getLsbD 31
    let ex := (w.extractLsb' 23 8).toNat
    let frac := (w.extractLsb' 0 23).toNat
    let d := F64.ofBits (widen b w)
    (ex = 0 → d.Denotes ((signed neg frac : ℝ) * (2 : ℝ) ^ (-149 : ℤ))) ∧
    (0 < ex → ex < 255 → d.Denotes ((signed neg (2 ^ 23 + frac) : ℝ) * (2 : ℝ) ^ ((ex : ℤ) - 150))) ∧
    (ex < 255 → (widen b w).getLsbD 63 = neg) ∧
    (ex = 255 → frac = 0 → d = .inf neg) ∧
    (ex = 255 → frac ≠ 0 → d = .nan)

/-- R10, R171: with the IEEE 754 definitions of log entry 20, on finite operands every operation of the sampler's arithmetic
gives the exact real result rounded to binary64, to nearest with ties to even. A product or quotient has the exclusive or
of the sign bits; a zero sum is +0 unless both terms are -0; the root of a zero is that zero; `abs` clears the sign bit.
Beside it, the results for an infinite operand, a zero divisor and a negative root. -/
def Obligations.ArithmeticIsCorrectlyRounded : Prop :=
  (∀ (v w : DWord) (x y : ℝ), (F64.ofBits v).Denotes x → (F64.ofBits w).Denotes y →
    let a := v.getLsbD 63
    let b := w.getLsbD 63
    (((F64.ofBits v).add (F64.ofBits w)).IsRoundingOf (x + y) ∧
      (x + y = 0 → ((F64.ofBits v).add (F64.ofBits w)).sign = (a && b))) ∧
    (((F64.ofBits v).sub (F64.ofBits w)).IsRoundingOf (x - y) ∧
      (x - y = 0 → ((F64.ofBits v).sub (F64.ofBits w)).sign = (a && !b))) ∧
    (((F64.ofBits v).mul (F64.ofBits w)).IsRoundingOf (x * y) ∧
      ((F64.ofBits v).mul (F64.ofBits w)).sign = (a ^^ b)) ∧
    (y ≠ 0 → ((F64.ofBits v).div (F64.ofBits w)).IsRoundingOf (x / y) ∧
      ((F64.ofBits v).div (F64.ofBits w)).sign = (a ^^ b)) ∧
    (0 ≤ x → (F64.ofBits v).sqrt.IsRoundingOf (Real.sqrt x) ∧ (x = 0 → (F64.ofBits v).sqrt.sign = a)) ∧
    ((F64.ofBits v).gt (F64.ofBits w) = true ↔ y < x)) ∧
  (∀ v : DWord, (F64.ofBits v).abs = F64.ofBits (v &&& 0x7FFFFFFFFFFFFFFF)) ∧
  (∀ (a b : Bool) (v : DWord) (x : ℝ), (F64.ofBits v).Denotes x →
    let d := F64.ofBits v
    let g := v.getLsbD 63
    ((F64.inf a).add d = .inf a ∧ d.add (.inf a) = .inf a ∧
      (F64.inf a).add (.inf b) = if a = b then .inf a else .nan) ∧
    ((F64.inf a).sub d = .inf a ∧ d.sub (.inf a) = .inf (!a) ∧
      (F64.inf a).sub (.inf b) = if a = b then .nan else .inf a) ∧
    ((F64.inf a).mul d = (if x = 0 then .nan else .inf (a ^^ g)) ∧
      d.mul (.inf a) = (if x = 0 then .nan else .inf (a ^^ g)) ∧ (F64.inf a).mul (.inf b) = .inf (a ^^ b)) ∧
    ((F64.inf a).div d = .inf (a ^^ g) ∧ d.div (.inf a) = F64.ofBits (if a ^^ g then 0x8000000000000000 else 0) ∧
      (F64.inf a).div (.inf b) = .nan ∧
      d.div (F64.ofBits (if a then 0x8000000000000000 else 0)) = if x = 0 then .nan else .inf (a ^^ g)) ∧
    ((F64.inf false).sqrt = .inf false ∧ (F64.inf true).sqrt = .nan ∧ (x < 0 → d.sqrt = .nan)) ∧
    ((F64.inf a).gt d = !a ∧ d.gt (.inf a) = a ∧ (F64.inf a).gt (.inf b) = (!a && b)))
end

