-- ==== Sys2Proof/Tests/Slice0.lean ====
section
/-! SUPPORT. The tests: ill-formed terms refused, the word of every command written out from spec/30_encoding.md, one
step of every command with the result of spec/95_test_vectors.md, and for every statement with hypotheses a state and
operands that meet them. -/

namespace Sys2Proof.Tests
open Sys2Proof.Machine

/-! ## Well-formedness -/

/-- CRC_LOAD_PROFILE 2 is BAD_ARG (41_crc.md R113). -/
theorem test_profile_two_ill_formed : (Instr.crcLoadProfile 2).wellFormed = false := by decide
theorem test_profile_one_well_formed : (Instr.crcLoadProfile 1).wellFormed = true := by decide
/-- SMP_ADD needs ARG[7:2] = 0 (44_sampler.md R175). -/
theorem test_kind_four_ill_formed : (Instr.smpAdd 4).wellFormed = false := by decide
theorem test_kind_three_well_formed : (Instr.smpAdd 3).wellFormed = true := by decide
/-- An access at 0x006 or of 8 bits is a bus error (20_memory.md R71). -/
theorem test_unaligned_read_ill_formed : (BusEvent.read 0x006 .w32).wellFormed = false := by decide
theorem test_byte_write_ill_formed : (BusEvent.write 0x004 .w8 0).wellFormed = false := by decide
theorem test_wide_read_ill_formed : (BusEvent.read 0x0A0 .w64).wellFormed = false := by decide
theorem test_aligned_read_well_formed : (BusEvent.read 0xFFC .w32).wellFormed = true := by decide

/-! ## Decoding: RSV [31:16], ARG [15:8], OP [7:0] (30_encoding.md R90, R91) -/

theorem test_decode_nop : decode 0b0000000000000000_00000000_00000000 = .ok (.nop 0) := by decide
theorem test_decode_crc_start : decode 0b0000000000000000_10000000_00000001 = .ok (.crcStart 128) := by decide
theorem test_decode_crc_feed : decode 0b0000000000000000_00110001_00000010 = .ok (.crcFeed 0x31) := by decide
theorem test_decode_crc_load_profile : decode 0b0000000000000000_00000001_00000011 = .ok (.crcLoadProfile 1) := by decide
theorem test_decode_crc_compute_rx : decode 0b0000000000000000_00000000_00000100 = .ok (.crcComputeRx 0) := by decide
theorem test_decode_build_rtu_read : decode 0b0000000000000000_00000000_00010000 = .ok (.buildRtuRead 0) := by decide
theorem test_decode_build_rtu_write : decode 0b0000000000000000_00000001_00010001 = .ok (.buildRtuWrite 1) := by decide
theorem test_decode_build_mmk : decode 0b0000000000000000_00000000_00010010 = .ok (.buildMmk 0) := by decide
theorem test_decode_validate_rtu : decode 0b0000000000000000_00000000_00100000 = .ok (.validateRtu 0) := by decide
theorem test_decode_extract_f32 : decode 0b0000000000000000_11111111_00100001 = .ok (.extractF32 0xFF) := by decide
theorem test_decode_extract_u16 : decode 0b0000000000000000_00000010_00100010 = .ok (.extractU16 2) := by decide
theorem test_decode_mmk_decode : decode 0b0000000000000000_00000000_00100011 = .ok (.mmkDecode 0) := by decide
theorem test_decode_smp_add : decode 0b0000000000000000_00000001_00110000 = .ok (.smpAdd 1) := by decide
theorem test_decode_smp_clear : decode 0b0000000000000000_00000000_00110001 = .ok (.smpClear 0) := by decide
theorem test_decode_clear_status : decode 0b0000000000000000_00000000_00111110 = .ok (.clearStatus 0) := by decide
theorem test_decode_soft_reset : decode 0b0000000000000000_11111111_00111111 = .ok (.softReset 0xFF) := by decide
/-- R92: an unlisted OP and a reserved bit are refused by name. -/
theorem test_decode_unlisted_op : decode 0b0000000000000000_00000000_01000000 = .error .unlistedOp := by decide
theorem test_decode_reserved_bit : decode 0b1000000000000000_00000000_00000000 = .error .reservedBits := by decide
theorem test_table_word_fifo : decodeTableWord 32 0x00003102 = some (.crcFeed 0x31) := by decide

/-! ## Helpers -/

/-- The next state of an outcome. -/
def nextOf : Host.Outcome State Fault Refusal → Option State
  | .next t => some t
  | .fault _ => none
  | .refused _ => none

theorem next_of_isSome {x : Host.Outcome State Fault Refusal} (h : (nextOf x).isSome = true) : ∃ t, x = .next t := by
  cases x with
  | next t => exact ⟨t, rfl⟩
  | fault _ => cases h
  | refused _ => cases h

theorem next_of_seen {α : Type} {x : Host.Outcome State Fault Refusal} {f : State → α} {v : α}
    (h : (nextOf x).map f = some v) : ∃ t, x = .next t ∧ f t = v := by
  cases x with
  | next t => exact ⟨t, rfl, Option.some.inj h⟩
  | fault _ => cases h
  | refused _ => cases h

/-- What `f` sees of the state after a command. -/
def seen {α : Type} (f : State → α) (i : Instr) (s : State) : Option α := (nextOf (exec i s)).map f

/-- The reset state with these bytes received. -/
def received (bs : List Byte) : State :=
  { State.reset with rx := Memory.writeBytes [] 0 bs, rxLen := BitVec.ofNat 9 bs.length }

/-- `received`, with the descriptor SLAVE 1, FUNC 3, COUNT `n`, BPR 2 (95_test_vectors.md section 4.1). -/
def response (n : Half) (bs : List Byte) : State :=
  { received bs with frSlave := 0x01, frFunc := 0x03, frCount := n, frBpr := 2 }

/-- The reset state with a descriptor. -/
def described (slave func : Byte) (start count value : Half) : State :=
  { State.reset with frSlave := slave, frFunc := func, frStart := start, frCount := count, frValue := value }

/-- STATUS as it reads. -/
def status (s : State) : Word := readAt 0x004 s

/-- The frame in TX. -/
def sent (s : State) : List Byte := s.tx.bytes s.txLen.toNat

/-- SMP_N = 5 with four samples 10.0 of kind R stored, and the next sample's primary (95_test_vectors.md section 1.4). -/
def fourTens (prim : Word) : State :=
  { State.reset with
    smpN := 5, cursor := 4, kindValid := true, smpPrim := prim, smpTan := 0x3C23D70A
    bufP := Vector.replicate 255 0x4024000000000000, bufT := Vector.replicate 255 0x3F847AE140000000 }

/-- SMP_N = 2 with the sample (1, 2) of kind R stored and (1.0078125, 4) to come (95_test_vectors.md section 5). -/
def oneOfTwo : State :=
  { State.reset with
    smpN := 2, cursor := 1, kindValid := true, smpPrim := 0x3F810000, smpTan := 0x40800000
    bufP := Vector.replicate 255 0x3FF0000000000000, bufT := Vector.replicate 255 0x4000000000000000 }

/-! ## One step of every command (95_test_vectors.md, and the rules where it has no vector) -/

/-- R190: NOP keeps ERR. -/
theorem test_nop_keeps_err : seen status (.nop 0) { State.reset with lastResult := .badArg, err := true } = some 0x100 := by
  decide +kernel
/-- Section 2.2: INIT 0xAB00 at W = 8 starts at 0x00. -/
theorem test_crc_start_masks :
    seen State.crcState (.crcStart 0) { State.reset with crcCfg := 0, crcInit := 0xAB00 } = some 0 := by decide +kernel
/-- Section 2.1. -/
theorem test_crc_feed_rtu : seen State.crcState (.crcFeed 0x31) State.reset = some 0x947E := by decide +kernel
theorem test_crc_feed_mmk :
    seen State.crcState (.crcFeed 0x01) { State.reset with crcCfg := 1, crcPoly := 0x8005, crcState := 0 } =
      some 0x8005 := by decide +kernel
/-- Section 2.3. -/
theorem test_crc_load_profile_mmk :
    seen (fun t => (t.crcCfg, t.crcPoly, t.crcInit, t.crcState)) (.crcLoadProfile 1) State.reset =
      some (0x1, 0x8005, 0, 0) := by decide +kernel
theorem test_crc_load_profile_bad : seen status (.crcLoadProfile 2) State.reset = some 0x102 := by decide +kernel
/-- Section 1.1, rows 1 and 3; section 2.1, the rows with REFIN alone (CRC_CFG 0x7) and REFOUT alone (0xB). -/
theorem test_crc_compute_rx_modbus :
    seen (readAt 0x024) (.crcComputeRx 0) (received [0x31, 0x32, 0x33, 0x34, 0x35, 0x36, 0x37, 0x38, 0x39]) =
      some 0x4B37 := by decide +kernel
theorem test_crc_compute_rx_reflected :
    seen (fun t => (t.crcState, readAt 0x024 t)) (.crcComputeRx 0)
      { received [0x31, 0x32, 0x33, 0x34, 0x35, 0x36, 0x37, 0x38, 0x39] with crcCfg := 0xD, crcPoly := 0x8005 } =
      some (0xECD2, 0x4B37) ∧
    seen (fun t => (t.crcState, readAt 0x024 t)) (.crcComputeRx 0)
      { received [0x31, 0x32, 0x33, 0x34, 0x35, 0x36, 0x37, 0x38, 0x39] with crcCfg := 0x7 } =
      some (0xE775, 0xE775) ∧
    seen (fun t => (t.crcState, readAt 0x024 t)) (.crcComputeRx 0)
      { received [0x31, 0x32, 0x33, 0x34, 0x35, 0x36, 0x37, 0x38, 0x39] with crcCfg := 0xB } =
      some (0x4B37, 0xECD2) := by decide +kernel
/-- Section 3.1, rows 1 and 7: a plain frame is not stuffed. -/
theorem test_build_rtu_read :
    seen sent (.buildRtuRead 0) (described 0x01 0x03 200 1 0) =
      some [0x01, 0x03, 0x00, 0xC8, 0x00, 0x01, 0x05, 0xF4] := by decide +kernel
theorem test_build_rtu_read_plain :
    seen (fun t => (readAt 0x100 t, readAt 0x104 t)) (.buildRtuRead 0) (described 0x10 0x03 0x1010 0x10 0) =
      some (0x10100310, 0x42421000) := by decide +kernel
/-- Section 3.2. -/
theorem test_build_rtu_write :
    seen sent (.buildRtuWrite 0) (described 0x01 0x06 200 1 0x1234) =
      some [0x01, 0x06, 0x00, 0xC8, 0x12, 0x34, 0x05, 0x43] := by decide +kernel
/-- Section 3.3: a stuffed CRC byte, and the bytes after a shorter frame. -/
theorem test_build_mmk_stuffs_crc :
    seen sent (.buildMmk 0) (described 0x4D 0x03 200 1 0) =
      some [0x10, 0x02, 0x4D, 0x03, 0x00, 0xC8, 0x01, 0x10, 0x10, 0x51, 0x10, 0x04] := by decide +kernel
theorem test_build_mmk_words :
    seen (fun t => (readAt 0x100 t, readAt 0x104 t, readAt 0x108 t, readAt 0x10C t)) (.buildMmk 0)
      { described 0x01 0x03 200 1 0 with tx := [(12, 0xAA)] } =
      some (0x03010210, 0x8C01C800, 0x00041072, 0) := by decide +kernel
/-- Section 4.1: a pass, and a response of XF0. -/
theorem test_validate_rtu_passes :
    seen (fun t => (status t, t.valPlLen)) (.validateRtu 0) (response 1 [0x01, 0x03, 0x02, 0x40, 0x00, 0x89, 0x84]) =
      some (0x000, 2) := by decide +kernel
theorem test_validate_rtu_unsupported :
    seen status (.validateRtu 0) (response 1 [0x01, 0x51, 0x00, 0x1D, 0x90]) = some 0x113 := by decide +kernel
/-- Section 4.2. -/
theorem test_extract_f32 :
    seen State.extWord (.extractF32 0)
      { response 2 [0x01, 0x03, 0x04, 0x44, 0x9A, 0x50, 0x00, 0xF2, 0xEC] with valPlLen := 4 } =
      some 0x449A5000 := by decide +kernel
theorem test_extract_f32_range :
    seen status (.extractF32 1) { State.reset with valPlLen := 4 } = some 0x130 := by decide +kernel
theorem test_extract_u16 :
    seen State.extWord (.extractU16 2)
      { response 2 [0x01, 0x03, 0x04, 0x44, 0x9A, 0x50, 0x00, 0xF2, 0xEC] with valPlLen := 4 } =
      some 0x00005000 := by decide +kernel
theorem test_extract_u16_range :
    seen status (.extractU16 3) { State.reset with valPlLen := 4 } = some 0x130 := by decide +kernel
/-- Section 1.2, row 4, and a frame without its end marker (section 4.3). -/
theorem test_mmk_decode :
    seen (fun t => (status t, t.mmkDec0, t.mmkDec1)) (.mmkDecode 0)
      (received [0x10, 0x02, 0x4D, 0x03, 0x00, 0xC8, 0x01, 0x10, 0x10, 0x51, 0x10, 0x04]) =
      some (0x000, 0xC800034D, 0x10510001) := by decide +kernel
theorem test_mmk_decode_no_end :
    seen status (.mmkDecode 0) (received [0x10, 0x02, 0x01, 0x03, 0x00, 0xC8, 0x01, 0x8C, 0x72]) =
      some 0x122 := by decide +kernel
/-- Section 1.4: the fifth sample. Section 5, the primaries [1, 1.0078125] and the tangents [2, 4]: deviations over
N - 1. -/
theorem test_smp_add_accepts :
    seen (fun t => (status t, readAt 0x094 t, t.estMean, t.estSd, t.estTmean, t.estTsd, readAt 0x0C0 t)) (.smpAdd 0)
      (fourTens 0x41200000) =
      some (0x041, 0x0C00, 0x4024000000000000, 0, 0x3F847AE140000000, 0, 0x005) ∧
    seen (fun t => (t.estMean, t.estSd, t.estTmean, t.estTsd)) (.smpAdd 0) oneOfTwo =
      some (0x3FF0100000000000, 0x3F76A09E667F3BCD, 0x4008000000000000, 0x3FF6A09E667F3BCD) := by decide +kernel
theorem test_smp_add_rejects :
    seen (fun t => (status t, readAt 0x094 t, t.rejCnt, t.estMean)) (.smpAdd 0) (fourTens 0x42480000) =
      some (0x042, 0x1400, 1, 0) := by decide +kernel
/-- R180: the kind and the cursor are forgotten. -/
theorem test_smp_clear :
    seen (readAt 0x094) (.smpClear 0) { fourTens 0 with estValid := true, kind := .l } = some 0x0800 := by decide +kernel
/-- R191. -/
theorem test_clear_status :
    seen status (.clearStatus 0) { State.reset with lastResult := .badArg, err := true } = some 0 := by decide +kernel
/-- R192. -/
theorem test_soft_reset :
    seen (fun t => (status t, t.smpN, t.crcPoly, t.rx)) (.softReset 0)
      { received [0x01] with smpN := 5, crcPoly := 0x8005, err := true } = some (0, 30, 0xA001, []) := by decide +kernel

/-- A word placed where the next step takes its command runs as that command. -/
theorem test_with_fetch_word :
    (nextOf (step (State.reset.withFetchWord 32 0x00003102))).map State.crcState = some 0x947E := by decide +kernel
/-- RXLOAD of five bytes takes three steps (30_encoding.md R103). -/
theorem test_rxload :
    asmRxload [0x01, 0x51, 0x00, 0x1D, 0x90] =
      [.write 0x200 .w32 0x1D005101, .write 0x204 .w32 0x00000090, .write 0x068 .w32 5] := by decide +kernel

/-! ## Witnesses: states and operands that meet the hypotheses of the statements -/

/-- IllegalWordOnlySetsStatus: a reserved bit, and an unlisted OP. -/
theorem test_witness_illegal_word :
    (0x00010002 : Word) >>> 16 ≠ 0 ∧
    (0x00000005 : Word) &&& 0xFF ∉ ([0x00, 0x01, 0x02, 0x03, 0x04, 0x10, 0x11, 0x12, 0x20, 0x21, 0x22, 0x23, 0x30, 0x31,
      0x3E, 0x3F] : List Word) := by decide

/-- StepRunsTheDecodedCommand. -/
theorem test_witness_decoded_command : decode 0x00000130 = .ok (.smpAdd 1) := by decide

/-- ReadsHaveNoSideEffect, at both ends of the window. -/
theorem test_witness_aligned_read : (0x000 : Offset).toNat % 4 = 0 ∧ (0xFFC : Offset).toNat % 4 = 0 := by decide

/-- ReadOnlyWritesAreIgnored: a register, and both ends of the TX window. -/
theorem test_witness_read_only :
    (0x0C0 : Offset) ∈ ([0x004, 0x020, 0x024, 0x05C, 0x060, 0x064, 0x06C, 0x070, 0x074, 0x078, 0x094, 0x098, 0x09C,
      0x0A0, 0x0A4, 0x0A8, 0x0AC, 0x0B0, 0x0B4, 0x0B8, 0x0BC, 0x0C0] : List Offset) ∧
    (∀ o ∈ ([0x100, 0x110] : List Offset), 0x100 ≤ o.toNat ∧ o.toNat < 0x114 ∧ o.toNat % 4 = 0) := by simp

/-- ReservedOffsetsReadZeroAndIgnoreWrites: both ends of each range. -/
theorem test_witness_reserved :
    ∀ o ∈ ([0x008, 0x00C, 0x028, 0x03C, 0x07C, 0x0C4, 0x0FC, 0x114, 0x1FC, 0x300, 0xFFC] : List Offset),
      o.toNat % 4 = 0 ∧
      ((0x008 ≤ o.toNat ∧ o.toNat < 0x010) ∨ (0x028 ≤ o.toNat ∧ o.toNat < 0x040) ∨
        (0x07C ≤ o.toNat ∧ o.toNat < 0x080) ∨ (0x0C4 ≤ o.toNat ∧ o.toNat < 0x100) ∨
        (0x114 ≤ o.toNat ∧ o.toNat < 0x200) ∨ 0x300 ≤ o.toNat) := by simp

/-- RxWindowStoresFourBytes: a non-empty RX and the first and last word; the last word is stored and read. -/
theorem test_witness_rx_window :
    (received [0x10, 0x02]).rx.wf = true ∧ 0 < 64 ∧ 63 < 64 ∧
    (nextOf (step ((received [0x10, 0x02]).facing (.write 0x2FC .w32 0x12345678) []))).map (readAt 0x2FC) =
      some 0x12345678 := by decide +kernel

/-- WindowWordsPackBytesLittleEndian, at the last byte of each window: TX[19] does not exist. -/
theorem test_witness_window_words :
    3 < 4 ∧ 4 < 5 ∧ 63 < 64 ∧ (readAt 0x110 { State.reset with tx := [(17, 0xAB)] }) = 0x0000AB00 ∧
    (readAt 0x2FC { State.reset with rx := [(255, 0xCD)] }) = 0xCD000000 := by decide +kernel

/-- UnalignedOrNarrowAccessFaults: a narrow access, and an unaligned one. -/
theorem test_witness_bus_error :
    AccessWidth.w16 ≠ AccessWidth.w32 ∧ AccessWidth.w64 ≠ AccessWidth.w32 ∧ (0x001 : Offset).toNat % 4 ≠ 0 ∧
    (0xFFE : Offset).toNat % 4 ≠ 0 := by decide

/-- RxloadPlacesTheFrame: no bytes, and 256 bytes, over a non-empty RX. -/
theorem test_witness_rxload :
    (received [0x10, 0x02]).rx.wf = true ∧ ([] : List Byte).length ≤ 256 ∧
    (List.replicate 256 (0xFF : Byte)).length ≤ 256 := by decide +kernel

/-- ServedEventsNeverStop: an access, a move of the reset line while it is asserted, and no event. -/
theorem test_witness_serves :
    State.Serves { State.reset with pending := [.read 0x004 .w32] } ∧
    State.Serves { State.reset with pending := [.resetLine false], resetAsserted := true } ∧ State.Serves State.reset :=
  ⟨⟨rfl, rfl⟩, trivial, trivial⟩

/-- ErrIsStickyUntilCleared, ErrorsArePrecise, CommandsEndWithTheirCodes, CommandsChangeOnlyTheirUnit: a command that
ends with an error. -/
theorem test_witness_failing_command :
    ∃ t, exec (.validateRtu 0) State.reset = .next t ∧
      (1 ≤ (resultByte t.lastResult).toNat ∧ (resultByte t.lastResult).toNat ≤ 0x3F) ∧
      opcode (.validateRtu 0) ≠ 0x3F := by
  obtain ⟨t, ht, hf⟩ := next_of_seen (x := exec (.validateRtu 0) State.reset) (f := State.lastResult)
    (v := .frameTooShort) (by decide +kernel)
  exact ⟨t, ht, by rw [hf]; decide, by decide⟩

/-- ErrIsStickyUntilCleared, at a command that succeeds while ERR is set. -/
theorem test_witness_sticky_err :
    ∃ t, exec (.nop 0) { State.reset with err := true } = .next t ∧ t.err = true ∧ opcode (.nop 0) ≠ 0x3E ∧
      opcode (.nop 0) ≠ 0x3F := by
  obtain ⟨t, ht, hf⟩ := next_of_seen (x := exec (.nop 0) { State.reset with err := true }) (f := State.err)
    (v := true) (by decide +kernel)
  exact ⟨t, ht, hf, by decide, by decide⟩

/-- OnlyCommandsChangeStatus: a write of SMP_N. -/
theorem test_witness_no_command :
    ∃ (s t : State) (e : BusEvent) (rest : List BusEvent), s.pending = e :: rest ∧
      (∀ v, e ≠ .write 0x000 .w32 v) ∧ (∀ b, e ≠ .resetLine b) ∧ step s = .next t := by
  obtain ⟨t, ht⟩ := next_of_isSome (x := step (State.reset.facing (.write 0x080 .w32 5) [])) (by decide +kernel)
  refine ⟨_, t, .write 0x080 .w32 5, [], rfl, fun v h => ?_, fun b h => ?_, ht⟩
  · injection h with h _ _
    exact absurd h (by decide)
  · cases h

/-- A state in the middle of work: a short frame in TX, a batch of kind L with 3 of 30 samples, ERR set, and a BUILD_MMK
to come. -/
def busy : State :=
  { State.reset with
    lastResult := .badArg, err := true, tx := [(0, 0x01), (7, 0xF4)], txLen := 8, rx := [(255, 0x04)], rxLen := 256
    valPlLen := 251, kindValid := true, kind := .l, cursor := 3, pending := [.write 0x000 .w32 0x12] }

/-- EveryStepKeepsTheInvariant. -/
theorem test_witness_invariant : busy.Inv ∧ ∃ t, step busy = .next t := by
  refine ⟨⟨by decide +kernel, by decide +kernel, by decide, ?_, by decide +kernel, by decide +kernel, by decide,
    by decide, by decide, by decide, by decide, by decide, ?_, by decide, by decide⟩, next_of_isSome (by decide +kernel)⟩
  · intro i hi
    have h8 : 8 ≤ i := hi
    show Memory.read [(0, 0x01), (7, 0xF4)] i = 0x00
    simp only [Memory.read]
    rw [if_neg (by omega), if_neg (by omega)]
    rfl
  · exact fun _ => ⟨rfl, rfl, rfl, rfl, rfl, rfl, rfl⟩

/-- StaleSampleSlotsAreUnobservable: two different states that agree. -/
theorem test_witness_agree :
    State.Agree (fourTens 0) { fourTens 0 with bufP := (fourTens 0).bufP.put 4 1 } ∧
    (fourTens 0).bufP.slot 4 ≠ ((fourTens 0).bufP.put 4 1).slot 4 := by
  refine ⟨⟨rfl, fun i hi => ⟨?_, rfl⟩⟩, by decide +kernel⟩
  have h : i < 4 := hi
  show Store.slot _ i = Store.slot (Store.put _ 4 1) i
  simp only [Store.slot, Store.put, Vector.getElem?_setIfInBounds]
  rw [if_neg (by omega)]

/-- CrcLoadProfileLoadsOrRefuses: the first and the last ARG that is no profile. -/
theorem test_witness_bad_profile : 2 ≤ (2 : Byte).toNat ∧ 2 ≤ (0xFF : Byte).toNat := by decide

/-- RtuBuildersEmitTheirFrames, MmkBuilderEmitsTheStuffedFrame: a TX that holds an older frame. -/
theorem test_witness_tx_wf : busy.tx.wf = true := by decide +kernel

/-- ValidateIsIdempotent: a validation that passes. -/
theorem test_witness_validate :
    ∃ t, exec (.validateRtu 0) (response 1 [0x01, 0x03, 0x02, 0x40, 0x00, 0x89, 0x84]) = .next t :=
  next_of_isSome (by decide +kernel)

/-- MmkDecodeAcceptsExactlyEncapsulatedFrames: a frame that is accepted (95_test_vectors.md section 4.3). -/
theorem test_witness_mmk_frame :
    rxFrame (received [0x10, 0x02, 0x01, 0x03, 0x00, 0xC8, 0x01, 0x8C, 0x72, 0x10, 0x04]) =
      mmkFrame (withMmkCrc [0x01, 0x03, 0x00, 0xC8, 0x01]) := by decide +kernel

/-- MmkDecodeNamesEveryMalformedFrame: one frame for each clause, in their order. The empty frame and a lone 0x10 have no
start marker either. -/
theorem test_witness_bad_start :
    (∀ r, rxFrame State.reset ≠ 0x10 :: 0x02 :: r) ∧ (∀ r, rxFrame (received [0x10]) ≠ 0x10 :: 0x02 :: r) ∧
    (∀ r, rxFrame (received [0x10, 0x03, 0x01]) ≠ 0x10 :: 0x02 :: r) := by
  have h1 : rxFrame (received [0x10]) = [0x10] := by decide +kernel
  have h2 : rxFrame (received [0x10, 0x03, 0x01]) = [0x10, 0x03, 0x01] := by decide +kernel
  refine ⟨fun r h => ?_, fun r h => ?_, fun r h => ?_⟩
  · cases (show ([] : List Byte) = 0x10 :: 0x02 :: r from h)
  · rw [h1] at h; cases h
  · rw [h2] at h
    injection h with _ h
    injection h with h _
    exact absurd h (by decide)
theorem test_witness_no_end : rxFrame (received [0x10, 0x02, 0x01]) = [0x10, 0x02] ++ stuff [0x01] := by decide +kernel
theorem test_witness_no_end_lone :
    rxFrame (received [0x10, 0x02, 0x01, 0x10]) = [0x10, 0x02] ++ stuff [0x01] ++ [0x10] := by decide +kernel
theorem test_witness_bad_stuff :
    (0x05 : Byte) ≠ 0x10 ∧ (0x05 : Byte) ≠ 0x04 ∧
    rxFrame (received [0x10, 0x02, 0x10, 0x10, 0x10, 0x05, 0x10]) =
      [0x10, 0x02] ++ stuff [0x10] ++ 0x10 :: 0x05 :: [0x10] := by decide +kernel
theorem test_witness_trailing :
    rxFrame (received [0x10, 0x02, 0x01, 0x10, 0x04, 0x00]) = mmkFrame [0x01] ++ 0x00 :: [] := by decide +kernel
theorem test_witness_bad_length :
    rxFrame (received [0x10, 0x02, 0x10, 0x04]) = mmkFrame [] ∧ ([] : List Byte).length ≠ 7 := by decide +kernel
theorem test_witness_bad_crc :
    rxFrame (received [0x10, 0x02, 0x01, 0x03, 0x00, 0xC8, 0x01, 0x8C, 0x73, 0x10, 0x04]) =
      mmkFrame [0x01, 0x03, 0x00, 0xC8, 0x01, 0x8C, 0x73] ∧
    withMmkCrc (([0x01, 0x03, 0x00, 0xC8, 0x01, 0x8C, 0x73] : List Byte).take 5) ≠
      [0x01, 0x03, 0x00, 0xC8, 0x01, 0x8C, 0x73] := by decide +kernel

/-- MmkFramesDecodeToTheirDescriptor: the frame of the first row of 95_test_vectors.md section 3.3. -/
theorem test_witness_mmk_symmetry :
    ∃ t u : State, (described 0x01 0x03 200 1 0).tx.wf = true ∧
      exec (.buildMmk 0) (described 0x01 0x03 200 1 0) = .next t ∧
      u.rxLen.toNat = t.txLen.toNat ∧ (∀ i, i < t.txLen.toNat → u.rx.read i = t.tx.read i) := by
  have h : ∃ t, exec (.buildMmk 0) (described 0x01 0x03 200 1 0) = .next t := next_of_isSome (by decide +kernel)
  obtain ⟨t, ht⟩ := h
  have h9 : (t.txLen.setWidth 9).toNat = t.txLen.toNat := by
    rw [BitVec.toNat_setWidth]
    exact Nat.mod_eq_of_lt (Nat.lt_of_lt_of_le t.txLen.isLt (by decide))
  exact ⟨t, { State.reset with rx := t.tx, rxLen := t.txLen.setWidth 9 }, by decide +kernel, ht, h9, fun _ _ => rfl⟩

/-- SmpAddRefusesBadKinds. -/
theorem test_witness_bad_kind : 4 ≤ (4 : Byte).toNat ∧ 4 ≤ (0xFF : Byte).toNat := by decide

/-- SmpAddStoresASample: after a kind switch, and without one at the last slot but one. -/
theorem test_witness_stores_sample :
    (let s := fourTens 0
     (if s.kindValid = true ∧ s.kind ≠ .l then 0 else s.cursor.toNat) + 1 < s.smpN.toNat) ∧
    (let s := { fourTens 0 with cursor := 3 }
     (if s.kindValid = true ∧ s.kind ≠ .r then 0 else s.cursor.toNat) + 1 < s.smpN.toNat) := by decide +kernel

/-- SmpAddCompletesABatch: a batch that is rejected and one that is accepted (95_test_vectors.md section 1.4). -/
theorem test_witness_completes_batch :
    (let s := fourTens 0x42480000
     s.cursor.toNat < s.smpN.toNat ∧
      s.smpN.toNat ≤ (if s.kindValid = true ∧ s.kind ≠ .r then 0 else s.cursor.toNat) + 1) ∧
    (let s := fourTens 0x41200000
     s.cursor.toNat < s.smpN.toNat ∧
      s.smpN.toNat ≤ (if s.kindValid = true ∧ s.kind ≠ .r then 0 else s.cursor.toNat) + 1) := by decide +kernel

/-- NaNsNeverRejectABatch. -/
theorem test_witness_nan : F64.nan ∈ [F64.zero false, F64.nan] := by decide

theorem one_denotes : (F64.ofBits 0x3FF0000000000000).Denotes 1 := by
  have h : F64.ofBits 0x3FF0000000000000 = .fin false (2 ^ 52) (-52) := by decide +kernel
  rw [h]
  norm_num [F64.Denotes, signed]

/-- NegativeMeanIsRejected: MAXDEV 1.0, a batch with one number, a zero, and the least and largest significand and
exponent. -/
theorem test_witness_negative_mean :
    (F64.ofBits 0x3FF0000000000000).Denotes 1 ∧ (1 : ℝ) ≤ 1 ∧
    F64.zero false ∈ [F64.nan, F64.zero false] ∧ F64.zero false ≠ .nan ∧ 0 < 1 ∧ 2 ^ 53 - 1 < 2 ^ 53 ∧
    F64.minExp ≤ F64.minExp ∧ F64.minExp ≤ F64.maxExp ∧ F64.maxExp ≤ F64.maxExp :=
  ⟨one_denotes, le_rfl, by decide, by decide, by norm_num, by norm_num, le_rfl, by decide, le_rfl⟩

/-- Binary64PatternsRoundTrip: a number, and a NaN. -/
theorem test_witness_patterns :
    F64.ofBits 0x4024000000000000 ≠ .nan ∧ F64.ofBits 0x7FF0000000000001 = .nan := by decide +kernel

/-- WideningIsExact: -0, the largest subnormal, the least and largest normal, an infinity and a NaN of binary32. -/
theorem test_witness_widening :
    ((0x80000000 : Word).extractLsb' 23 8).toNat = 0 ∧ ((0x007FFFFF : Word).extractLsb' 23 8).toNat = 0 ∧ ((0x00800000 : Word).extractLsb' 23 8).toNat = 1 ∧
    ((0x7F7FFFFF : Word).extractLsb' 23 8).toNat = 254 ∧
    (((0xFF800000 : Word).extractLsb' 23 8).toNat = 255 ∧ ((0xFF800000 : Word).extractLsb' 0 23).toNat = 0) ∧
    (((0x7F800001 : Word).extractLsb' 23 8).toNat = 255 ∧ ((0x7F800001 : Word).extractLsb' 0 23).toNat ≠ 0) := by
  decide

/-- ArithmeticIsCorrectlyRounded: 1.0 and 1.0; for the clauses about a zero, +0 and -0. -/
theorem test_witness_arithmetic :
    (F64.ofBits 0x3FF0000000000000).Denotes 1 ∧ (1 : ℝ) ≠ 0 ∧ (0 : ℝ) ≤ 1 ∧
    (F64.ofBits 0x0000000000000000).Denotes 0 ∧ (F64.ofBits 0x8000000000000000).Denotes 0 ∧
    (0 : ℝ) + 0 = 0 ∧ (0 : ℝ) - 0 = 0 ∧ (1 : ℝ) - 1 = 0 := by
  have h2 : F64.ofBits 0x0000000000000000 = .fin false 0 (-1074) := by decide +kernel
  have h3 : F64.ofBits 0x8000000000000000 = .fin true 0 (-1074) := by decide +kernel
  refine ⟨one_denotes, ?_⟩
  rw [h2, h3]
  exact ⟨one_ne_zero, zero_le_one, by simp [F64.Denotes, signed],
    by simp [F64.Denotes, signed], add_zero 0, sub_zero 0, sub_self 1⟩

end Sys2Proof.Tests
end

section
/-! PROOF. What a read of a named register returns, as a number (spec/10_state.md section 2). -/

namespace Sys2Proof.Machine

/-! Words put together from fields -/

/-- A concatenation as a number. -/
theorem toNat_append_eq_add {a b : Nat} (x : BitVec a) (y : BitVec b) :
    (x ++ y).toNat = x.toNat * 2 ^ b + y.toNat := by
  rw [BitVec.toNat_append, ← Nat.shiftLeft_add_eq_or_of_lt y.isLt, Nat.shiftLeft_eq]

@[simp] theorem toNat_bit (b : Bool) : (bit b).toNat = if b then 1 else 0 := by cases b <;> rfl

/-- The two halves of a 64-bit register pair hold it whole (R51). -/
theorem toNat_loWord_add_hiWord (x : DWord) : (loWord x).toNat + 2 ^ 32 * (hiWord x).toNat = x.toNat := by
  have hx := x.isLt
  simp only [loWord, hiWord, BitVec.extractLsb'_toNat, Nat.shiftRight_eq_div_pow]
  omega

/-! The words a host reads -/

theorem toNat_statusWord (s : State) :
    (statusWord s).toNat = (resultByte s.lastResult).toNat + if s.err then 256 else 0 := by
  rw [statusWord, BitVec.toNat_setWidth_of_le (by decide), toNat_append_eq_add, toNat_bit]
  split <;> omega

theorem toNat_smpStatWord (s : State) :
    (smpStatWord s).toNat = s.cursor.toNat + 256 * (kindBits s.kind).toNat + (if s.kindValid then 1024 else 0) +
      (if s.estValid then 2048 else 0) + (if s.lastFillRej then 4096 else 0) := by
  rw [smpStatWord, BitVec.toNat_setWidth_of_le (by decide)]
  simp only [toNat_append_eq_add, toNat_bit]
  split <;> split <;> split <;> omega

theorem toNat_estInfoWord (s : State) :
    (estInfoWord s).toNat = s.estCount.toNat + 256 * (kindBits s.estKind).toNat := by
  rw [estInfoWord, BitVec.toNat_setWidth_of_le (by decide), toNat_append_eq_add]
  omega

/-- FR_EXP_TOTAL, and so FR_EXP_DATA, fits its word (R37, R38). -/
theorem expTotal_lt (s : State) : expTotal s < 2 ^ 32 := by
  have hle : expData s ≤ 65535 * 255 :=
    Nat.mul_le_mul (Nat.le_of_lt_succ s.frCount.isLt) (Nat.le_of_lt_succ s.frBpr.isLt)
  rw [expTotal]
  omega

theorem expData_lt (s : State) : expData s < 2 ^ 32 := (Nat.le_add_left _ 5).trans_lt (expTotal_lt s)

/-! A register at its offset -/

@[simp] theorem slotAt_offset (r : Reg) : slotAt r.offset = .reg r := by cases r <;> rfl

@[simp] theorem readAt_offset (r : Reg) (s : State) : readAt r.offset s = readReg r s := by
  rw [readAt, slotAt_offset]

/-- A register that holds one field reads as that field, zero-extended (R54). -/
theorem toNat_readAt_field (r : Reg) {s : State} {n : Nat} {f : BitVec n}
    (hf : readReg r s = f.setWidth 32) (hn : n ≤ 32) : (readAt r.offset s).toNat = f.toNat := by
  rw [readAt_offset, hf, BitVec.toNat_setWidth_of_le hn]

/-- A register that is computed at the read reads as its value, if that fits the word. -/
theorem toNat_readAt_computed (r : Reg) {s : State} {n : Nat}
    (hf : readReg r s = BitVec.ofNat 32 n) (hn : n < 2 ^ 32) : (readAt r.offset s).toNat = n := by
  rw [readAt_offset, hf, BitVec.toNat_ofNat, Nat.mod_eq_of_lt hn]

/-- The two registers of a 64-bit estimate hold it whole (R51). -/
theorem toNat_readAt_pair (lo hi : Reg) {s : State} {x : DWord} (hlo : readReg lo s = loWord x)
    (hhi : readReg hi s = hiWord x) :
    (readAt lo.offset s).toNat + 2 ^ 32 * (readAt hi.offset s).toNat = x.toNat := by
  rw [readAt_offset, readAt_offset, hlo, hhi, toNat_loWord_add_hiWord]

/-- A register that is a word put together from fields reads as the number of that word. -/
theorem toNat_readAt_word (r : Reg) {s : State} {n : Nat} (h : (readReg r s).toNat = n) :
    (readAt r.offset s).toNat = n := by
  rw [readAt_offset, h]

/-- Settles O8: each clause is the register at that offset, read as a field, as a word of fields, as a computed
number or as half of a pair. -/
theorem registerReadsReturnTheirFields : Obligations.RegisterReadsReturnTheirFields := by
  intro s code kindNumber
  have hcode : (resultByte s.lastResult).toNat = code := by
    simp only [code]
    cases s.lastResult <;> rfl
  have hkind (k : ChannelKind) : (kindBits k).toNat = kindNumber k := by cases k <;> rfl
  have hstatus : (statusWord s).toNat = code + if s.err then 256 else 0 := hcode ▸ toNat_statusWord s
  have hsmpStat := hkind s.kind ▸ toNat_smpStatWord s
  have hestInfo := hkind s.estKind ▸ toNat_estInfoWord s
  exact ⟨congrArg BitVec.toNat (readAt_offset .cmd s), toNat_readAt_word .status hstatus,
    toNat_readAt_field .crcCfg rfl (by decide), toNat_readAt_field .crcPoly rfl (by decide),
    toNat_readAt_field .crcInit rfl (by decide), toNat_readAt_field .crcXorout rfl (by decide),
    toNat_readAt_field .crcState rfl (by decide),
    toNat_readAt_field .frSlave rfl (by decide), toNat_readAt_field .frFunc rfl (by decide),
    toNat_readAt_field .frStart rfl (by decide), toNat_readAt_field .frCount rfl (by decide),
    toNat_readAt_field .frBpr rfl (by decide), toNat_readAt_field .frValue rfl (by decide),
    toNat_readAt_field .frXfunc rfl (by decide),
    toNat_readAt_computed .frExpData rfl (expData_lt s), toNat_readAt_computed .frExpTotal rfl (expTotal_lt s),
    toNat_readAt_field .txLen rfl (by decide), toNat_readAt_field .rxLen rfl (by decide),
    toNat_readAt_field .valPlLen rfl (by decide),
    readAt_offset .extWord s, readAt_offset .mmkDec0 s, readAt_offset .mmkDec1 s,
    toNat_readAt_field .smpN rfl (by decide), readAt_offset .smpMaxdevLo s, readAt_offset .smpMaxdevHi s,
    readAt_offset .smpPrim s, readAt_offset .smpTan s, toNat_readAt_word .smpStat hsmpStat,
    readAt_offset .smpAccCnt s, readAt_offset .smpRejCnt s,
    toNat_readAt_pair .estMeanLo .estMeanHi rfl rfl, toNat_readAt_pair .estSdLo .estSdHi rfl rfl,
    toNat_readAt_pair .estTmeanLo .estTmeanHi rfl rfl, toNat_readAt_pair .estTsdLo .estTsdHi rfl rfl,
    toNat_readAt_word .estInfo hestInfo⟩

end Sys2Proof.Machine
end

section
/-! PROOF. Binary64 patterns and data (spec/00_scope.md R10, 44_sampler.md R171). -/

namespace Sys2Proof.Machine

/-! A pattern and its fields: sign, exponent, fraction -/

theorem extractLsb'_eq_bit {n : Nat} (w : BitVec n) (i : Nat) : w.extractLsb' i 1 = bit (w.getLsbD i) := by
  apply BitVec.eq_of_getLsbD_eq
  intro j hj
  obtain rfl : j = 0 := by omega
  cases h : w.getLsbD i <;> simp [bit, h]

/-- A 64-bit word is its three binary64 fields. -/
theorem append_fields (w : DWord) :
    bit (w.getLsbD 63) ++ (w.extractLsb' 52 11 ++ w.extractLsb' 0 52) = w := by
  have hlow : w.extractLsb' 52 11 ++ w.extractLsb' 0 52 = w.extractLsb' 0 63 :=
    BitVec.extractLsb'_append_extractLsb'_eq_extractLsb' rfl
  have hall : w.extractLsb' 63 1 ++ w.extractLsb' 0 63 = w.extractLsb' 0 64 :=
    BitVec.extractLsb'_append_extractLsb'_eq_extractLsb' rfl
  rw [← extractLsb'_eq_bit, hlow, hall, BitVec.extractLsb'_eq_self]

theorem exists_fields (w : DWord) :
    ∃ (neg : Bool) (ex : BitVec 11) (frac : BitVec 52), w = bit neg ++ (ex ++ frac) :=
  ⟨_, _, _, (append_fields w).symm⟩

section
variable (neg : Bool) (ex : BitVec 11) (frac : BitVec 52)

@[simp] theorem getLsbD_fields : (bit neg ++ (ex ++ frac)).getLsbD 63 = neg := by
  rw [BitVec.getLsbD_append]
  cases neg <;> rfl

theorem exponent_fields : (bit neg ++ (ex ++ frac)).extractLsb' 52 11 = ex := by
  rw [BitVec.extractLsb'_append_eq_of_add_le (by decide), BitVec.extractLsb'_append_eq_left]

theorem fraction_fields : (bit neg ++ (ex ++ frac)).extractLsb' 0 52 = frac := by
  rw [BitVec.extractLsb'_append_eq_of_add_le (by decide), BitVec.extractLsb'_append_eq_right]

/-- `f64` on the three fields. -/
theorem F64.ofBits_fields : F64.ofBits (bit neg ++ (ex ++ frac)) =
    if ex.toNat = 2047 then (if frac.toNat = 0 then .inf neg else .nan)
    else if ex.toNat = 0 then .fin neg frac.toNat F64.minExp
    else .fin neg (2 ^ 52 + frac.toNat) ((ex.toNat : Int) - 1075) := by
  simp only [F64.ofBits, getLsbD_fields, exponent_fields, fraction_fields]

end

section
variable {neg : Bool} {ex : BitVec 11} {frac : BitVec 52}

/-- The NaN patterns: all exponent bits set and a fraction other than 0. -/
theorem F64.ofBits_fields_eq_nan_iff :
    F64.ofBits (bit neg ++ (ex ++ frac)) = .nan ↔ ex = 0x7FF ∧ frac ≠ 0 := by
  rw [F64.ofBits_fields, ← BitVec.toNat_inj, ne_eq, ← BitVec.toNat_inj]
  by_cases hmax : ex.toNat = 2047
  · simp [hmax]
  · by_cases hzero : ex.toNat = 0 <;> simp [hmax, hzero]

/-- The sign of a datum is bit 63 of its pattern. -/
theorem F64.sign_ofBits {w : DWord} (h : F64.ofBits w ≠ .nan) : (F64.ofBits w).sign = w.getLsbD 63 := by
  obtain ⟨neg, ex, frac, rfl⟩ := exists_fields w
  rw [getLsbD_fields]
  rw [F64.ofBits_fields] at h ⊢
  by_cases hmax : ex.toNat = 2047
  · by_cases hfrac : frac.toNat = 0
    · simp [hmax, hfrac]
    · simp [hmax, hfrac] at h
  · by_cases hzero : ex.toNat = 0 <;> simp [hmax, hzero]

end

/-- A datum of the format: a significand below 2^53, full except at the least exponent. -/
def F64.Canonical : F64 → Prop
  | .nan => True
  | .inf _ => True
  | .fin _ m e => m < 2 ^ 53 ∧ F64.minExp ≤ e ∧ e ≤ F64.maxExp ∧ (m < 2 ^ 52 → e = F64.minExp)

theorem F64.canonical_ofBits (w : DWord) : (F64.ofBits w).Canonical := by
  obtain ⟨neg, ex, frac, rfl⟩ := exists_fields w
  have hex := ex.isLt
  have hfrac := frac.isLt
  rw [F64.ofBits_fields]
  by_cases hmax : ex.toNat = 2047
  · by_cases hzero : frac.toNat = 0 <;> simp [hmax, hzero, F64.Canonical]
  · rw [if_neg hmax]
    by_cases hzero : ex.toNat = 0
    · rw [if_pos hzero]
      exact ⟨by omega, le_rfl, by decide, fun _ => rfl⟩
    · rw [if_neg hzero]
      simp only [F64.Canonical, F64.minExp, F64.maxExp]
      omega

/-! `bits64`, by the kinds of datum -/

theorem F64.toBits_inf (b : DWord) (neg : Bool) :
    (F64.inf neg).toBits b = bit neg ++ ((0x7FF : BitVec 11) ++ (0 : BitVec 52)) := rfl

theorem F64.toBits_subnormal (b : DWord) (neg : Bool) {m : Nat} (e : Int) (h : m < 2 ^ 52) :
    (F64.fin neg m e).toBits b = bit neg ++ ((0 : BitVec 11) ++ BitVec.ofNat 52 m) := by
  simp only [F64.toBits, if_pos h]
  rfl

theorem F64.toBits_normal (b : DWord) (neg : Bool) {m : Nat} (e : Int) (h : 2 ^ 52 ≤ m) :
    (F64.fin neg m e).toBits b = bit neg ++ (BitVec.ofNat 11 (e + 1075).toNat ++ BitVec.ofNat 52 m) := by
  simp only [F64.toBits, if_neg (Nat.not_lt.mpr h)]

/-- The sign of a datum is bit 63 of the pattern made for it. -/
theorem F64.getLsbD_toBits {d : F64} (h : d ≠ .nan) (b : DWord) : (d.toBits b).getLsbD 63 = d.sign := by
  cases d with
  | nan => exact absurd rfl h
  | inf neg => exact getLsbD_fields _ _ _
  | fin neg m e => exact getLsbD_fields _ _ _

/-- A pattern that is no NaN is the pattern of its datum. -/
theorem F64.toBits_ofBits {w : DWord} (h : F64.ofBits w ≠ .nan) (b : DWord) : (F64.ofBits w).toBits b = w := by
  obtain ⟨neg, ex, frac, rfl⟩ := exists_fields w
  rw [ne_eq, F64.ofBits_fields_eq_nan_iff] at h
  rw [F64.ofBits_fields]
  by_cases hmax : ex.toNat = 2047
  · obtain rfl : ex = 0x7FF := BitVec.eq_of_toNat_eq hmax
    obtain rfl : frac = 0 := by simpa using h
    rfl
  rw [if_neg hmax]
  by_cases hzero : ex.toNat = 0
  · obtain rfl : ex = 0 := BitVec.eq_of_toNat_eq hzero
    rw [if_pos hzero, F64.toBits_subnormal _ _ _ frac.isLt, BitVec.ofNat_toNat, BitVec.setWidth_eq]
  · have hfrac : BitVec.ofNat 52 (2 ^ 52 + frac.toNat) = frac := by
      apply BitVec.eq_of_toNat_eq
      rw [BitVec.toNat_ofNat, Nat.add_mod_left, Nat.mod_eq_of_lt frac.isLt]
    rw [if_neg hzero, F64.toBits_normal _ _ _ (Nat.le_add_right _ _), hfrac, Int.sub_add_cancel, Int.toNat_natCast,
      BitVec.ofNat_toNat, BitVec.setWidth_eq]

/-- A datum of the format, a NaN apart, is the datum of its pattern. -/
theorem F64.ofBits_toBits {d : F64} (hd : d.Canonical) (h : d ≠ .nan) (b : DWord) :
    F64.ofBits (d.toBits b) = d := by
  cases d with
  | nan => exact absurd rfl h
  | inf neg => rw [F64.toBits_inf, F64.ofBits_fields]; rfl
  | fin neg m e =>
    obtain ⟨hm, hlo, hhi, hsub⟩ := hd
    simp only [F64.minExp, F64.maxExp] at hlo hhi
    by_cases hlt : m < 2 ^ 52
    · have hfrac : (BitVec.ofNat 52 m).toNat = m := Nat.mod_eq_of_lt hlt
      rw [F64.toBits_subnormal b neg e hlt, F64.ofBits_fields, hfrac, hsub hlt]
      rfl
    · have hex : (BitVec.ofNat 11 (e + 1075).toNat).toNat = (e + 1075).toNat := Nat.mod_eq_of_lt (by omega)
      have hfrac : 2 ^ 52 + (BitVec.ofNat 52 m).toNat = m := by
        rw [BitVec.toNat_ofNat]
        omega
      rw [F64.toBits_normal b neg e (Nat.not_lt.mp hlt), F64.ofBits_fields, hex, hfrac, if_neg (by omega),
        if_neg (by omega), Int.toNat_of_nonneg (by omega), Int.add_sub_cancel]

/-! NaN patterns -/

/-- A NaN pattern whatever the free bits: a fraction of 0 is replaced by 1. -/
theorem F64.ofBits_nanPattern (b : DWord) : F64.ofBits (nanPattern b) = .nan := by
  rw [nanPattern, extractLsb'_eq_bit, F64.ofBits_fields_eq_nan_iff]
  refine ⟨rfl, ?_⟩
  split
  · decide
  · assumption

/-- Every NaN pattern is the one made from its own bits. -/
theorem nanPattern_eq_self {w : DWord} (h : F64.ofBits w = .nan) : nanPattern w = w := by
  rw [← append_fields w, F64.ofBits_fields_eq_nan_iff] at h
  obtain ⟨hex, hfrac⟩ := h
  rw [nanPattern, extractLsb'_eq_bit, if_neg hfrac, ← hex, append_fields]

/-- The quiet NaN patterns by their fields: fraction bit 51 is set. -/
theorem quietNaNPattern_eq (b : DWord) :
    quietNaNPattern b = bit (b.getLsbD 63) ++ ((0x7FF : BitVec 11) ++ ((1 : BitVec 1) ++ b.extractLsb' 0 51)) := by
  rw [quietNaNPattern, extractLsb'_eq_bit, show (0xFFF : BitVec 12) = (0x7FF : BitVec 11) ++ (1 : BitVec 1) from rfl,
    BitVec.append_assoc]
  rfl

theorem getLsbD_quietNaNPattern (b : DWord) : (quietNaNPattern b).getLsbD 51 = true := by
  rw [quietNaNPattern_eq, BitVec.getLsbD_append, if_pos (by decide), BitVec.getLsbD_append, if_pos (by decide),
    BitVec.getLsbD_append]
  rfl

theorem F64.ofBits_quietNaNPattern (b : DWord) : F64.ofBits (quietNaNPattern b) = .nan := by
  rw [quietNaNPattern_eq, F64.ofBits_fields_eq_nan_iff]
  refine ⟨rfl, fun hzero => ?_⟩
  have hnum := congrArg BitVec.toNat hzero
  rw [toNat_append_eq_add] at hnum
  simp at hnum

/-- Settles O58: the two round trips, the two kinds of NaN pattern, and NaN patterns from their own bits. -/
theorem binary64PatternsRoundTrip : Obligations.Binary64PatternsRoundTrip :=
  ⟨fun _ b h => F64.toBits_ofBits h b,
    fun b => ⟨F64.ofBits_nanPattern b, F64.ofBits_quietNaNPattern b, getLsbD_quietNaNPattern b⟩,
    fun _ h => nanPattern_eq_self h⟩

end Sys2Proof.Machine
end

section
/-! PROOF. `F64.round` gives the nearest datum of the format, ties to even (spec/00_scope.md R10). The magnitude is
read as `v · 2^q`, with `q` the exponent chosen by `F64.roundExp`; the significand is the integer nearest to `v`. -/

namespace Sys2Proof.Machine

/-! Powers of two -/

theorem two_zpow_pos (e : ℤ) : (0 : ℝ) < 2 ^ e := zpow_pos two_pos e

theorem two_zpow_add (e f : ℤ) : (2 : ℝ) ^ (e + f) = 2 ^ e * 2 ^ f := zpow_add₀ two_ne_zero e f

theorem pow2_pos (t : ℤ) : 0 < pow2 t := Nat.two_pow_pos _

/-- Scaling up by `pow2 t` and down by `pow2 (-t)`, one of which is 1, is scaling by `2 ^ t`. -/
theorem pow2_div_pow2 (e q : ℤ) : (pow2 (e - q) : ℝ) / pow2 (q - e) = 2 ^ (e - q) := by
  have hcast : ∀ t : ℤ, (pow2 t : ℝ) = 2 ^ (t.toNat : ℤ) := fun t => by
    rw [pow2, Nat.cast_pow, Nat.cast_ofNat, zpow_natCast]
  rw [hcast, hcast, ← zpow_sub₀ two_ne_zero]
  congr 1
  omega

theorem pow2_of_nonneg {t : ℤ} (h : 0 ≤ t) : (pow2 t : ℝ) = 2 ^ t := by
  rw [pow2, Nat.cast_pow, Nat.cast_ofNat, ← zpow_natCast, Int.toNat_of_nonneg h]

/-- The quotient that `F64.round` rounds is the magnitude in units of `2^q`. -/
theorem scaled_quotient (n d : ℕ) (e q : ℤ) :
    ((n * pow2 (e - q) : ℕ) : ℝ) / (d * pow2 (q - e) : ℕ) = (n : ℝ) / d * 2 ^ e / 2 ^ q := by
  rw [Nat.cast_mul, Nat.cast_mul, mul_div_mul_comm, pow2_div_pow2, zpow_sub₀ two_ne_zero, mul_div_assoc]

/-! The nearest integer, ties to even -/

/-- `k` is an integer nearest to `v`, and even if `v` is halfway between two. -/
structure NearestEven (k : ℕ) (v : ℝ) : Prop where
  lower : (k : ℝ) - 1 / 2 ≤ v
  upper : v ≤ k + 1 / 2
  tie : v = k - 1 / 2 ∨ v = k + 1 / 2 → k % 2 = 0

theorem nearestEven_roundHalfEven (num : ℕ) {den : ℕ} (hden : 0 < den) :
    NearestEven (roundHalfEven num den) ((num : ℝ) / den) := by
  have hpos : (0 : ℝ) < den := Nat.cast_pos.mpr hden
  have hnum : (num : ℝ) = den * (num / den : ℕ) + (num % den : ℕ) := by
    exact_mod_cast (Nat.div_add_mod num den).symm
  have hr : num % den < den := Nat.mod_lt num hden
  have hv : (num : ℝ) / den = (num / den : ℕ) + ((num % den : ℕ) : ℝ) / den := by
    rw [div_eq_iff hpos.ne', add_mul, div_mul_cancel₀ _ hpos.ne', mul_comm _ (den : ℝ)]
    exact hnum
  have hfrac0 : (0 : ℝ) ≤ ((num % den : ℕ) : ℝ) / den := by positivity
  have hfrac1 : ((num % den : ℕ) : ℝ) / den < 1 := (div_lt_one hpos).mpr (by exact_mod_cast hr)
  have hlt : ((num % den : ℕ) : ℝ) / den < 1 / 2 ↔ 2 * (num % den) < den := by
    rw [div_lt_div_iff₀ hpos two_pos, one_mul, mul_comm]
    exact_mod_cast Iff.rfl
  have hgt : 1 / 2 < ((num % den : ℕ) : ℝ) / den ↔ den < 2 * (num % den) := by
    rw [div_lt_div_iff₀ two_pos hpos, one_mul, mul_comm _ (2 : ℝ)]
    exact_mod_cast Iff.rfl
  rw [hv]
  generalize ((num % den : ℕ) : ℝ) / den = frac at hfrac0 hfrac1 hlt hgt
  simp only [roundHalfEven]
  split
  next hup =>
    have hhalf : 1 / 2 ≤ frac := le_of_not_gt fun h => by have := hlt.mp h; omega
    have hsucc : ((num / den + 1 : ℕ) : ℝ) = (num / den : ℕ) + 1 := Nat.cast_succ _
    refine ⟨by linarith, by linarith, fun htie => ?_⟩
    have heq : ¬ 1 / 2 < frac := by rcases htie with h | h <;> linarith
    rw [hgt] at heq
    omega
  next hdown =>
    have hhalf : frac ≤ 1 / 2 := le_of_not_gt fun h => by have := hgt.mp h; omega
    refine ⟨by linarith, by linarith, fun htie => ?_⟩
    have heq : ¬ frac < 1 / 2 := by rcases htie with h | h <;> linarith
    rw [hlt] at heq
    omega

section
variable {k : ℕ} {v : ℝ}

theorem NearestEven.abs_sub_le_half (h : NearestEven k v) : |v - k| ≤ 1 / 2 :=
  abs_le.mpr ⟨by linarith [h.lower], by linarith [h.upper]⟩

theorem NearestEven.even_of_abs_sub_eq (h : NearestEven k v) (heq : |v - k| = 1 / 2) : k % 2 = 0 := by
  rcases abs_eq (by norm_num) |>.mp heq with heq | heq
  · exact h.tie (.inr (by linarith))
  · exact h.tie (.inl (by linarith))

/-- No integer is nearer to `v`, and another one as near makes `k` even. -/
theorem NearestEven.le_abs_sub_nat (h : NearestEven k v) (j : ℕ) :
    |v - k| ≤ |v - j| ∧ (|v - k| = |v - j| → (j : ℝ) ≠ k → k % 2 = 0) := by
  rcases eq_or_ne j k with rfl | hne
  · exact ⟨le_rfl, fun _ hjk => absurd rfl hjk⟩
  have hdist : 1 ≤ |(j : ℝ) - k| := by
    exact_mod_cast Int.one_le_abs (sub_ne_zero.mpr (Nat.cast_injective.ne hne) : (j : ℤ) - k ≠ 0)
  have htri : |(j : ℝ) - k| ≤ |v - k| + |v - j| := by
    rw [add_comm, abs_sub_comm v j]
    exact abs_sub_le _ _ _
  have hk := h.abs_sub_le_half
  exact ⟨by linarith, fun heq _ => h.even_of_abs_sub_eq (by linarith)⟩

/-- Below a full significand nothing is as near as `k`: 2^52 itself is an integer between. -/
theorem NearestEven.lt_abs_sub_of_small (h : NearestEven k v) (hfull : 2 ^ 52 ≤ v) {w : ℝ} (hw : w < 2 ^ 52) :
    |v - k| < |v - w| := by
  have hle := (h.le_abs_sub_nat (2 ^ 52)).1
  rw [Nat.cast_pow, Nat.cast_ofNat, abs_of_nonneg (sub_nonneg.mpr hfull)] at hle
  rw [abs_of_pos (by linarith : 0 < v - w)]
  linarith

end

/-! Magnitudes of the format in units of 2^q -/

/-- Counted in units of `2^q`, a magnitude of the format is an integer, or it lies below a full significand and has an
exponent below `q`. -/
theorem format_in_units {j : ℕ} (hj : j < 2 ^ 53) (f q : ℤ) :
    ∃ w : ℝ, (j : ℝ) * 2 ^ f = w * 2 ^ q ∧ ((∃ i : ℕ, w = i) ∨ (f < q ∧ w < 2 ^ 52)) := by
  rcases le_or_gt q f with hle | hlt
  · refine ⟨(j * pow2 (f - q) : ℕ), ?_, .inl ⟨_, rfl⟩⟩
    rw [Nat.cast_mul, pow2_of_nonneg (sub_nonneg.mpr hle), mul_assoc, ← two_zpow_add, sub_add_cancel]
  · refine ⟨j * 2 ^ (f - q), ?_, .inr ⟨hlt, ?_⟩⟩
    · rw [mul_assoc, ← two_zpow_add, sub_add_cancel]
    · have hhalf : (2 : ℝ) ^ (f - q) ≤ 2 ^ (-1 : ℤ) := zpow_le_zpow_right₀ one_le_two (by omega)
      have hj' : (j : ℝ) < 2 ^ 53 := by exact_mod_cast hj
      calc (j : ℝ) * 2 ^ (f - q) ≤ j * 2 ^ (-1 : ℤ) := by gcongr
        _ < 2 ^ 53 * 2 ^ (-1 : ℤ) := by gcongr
        _ = 2 ^ 52 := by norm_num

/-- The significand nearest to `v` makes `k · 2^q` a magnitude of the format nearest to `v · 2^q`, even on a tie. -/
theorem NearestEven.le_format {k : ℕ} {v : ℝ} {q : ℤ} (h : NearestEven k v)
    (hfull : F64.minExp < q → 2 ^ 52 ≤ v) {j : ℕ} {f : ℤ} (hj : j < 2 ^ 53) (hf : F64.minExp ≤ f) :
    |v * 2 ^ q - k * 2 ^ q| ≤ |v * 2 ^ q - j * 2 ^ f| ∧
      (|v * 2 ^ q - k * 2 ^ q| = |v * 2 ^ q - j * 2 ^ f| → (j : ℝ) * 2 ^ f ≠ k * 2 ^ q → k % 2 = 0) := by
  have hpos := two_zpow_pos q
  have habs : ∀ u : ℝ, |v * 2 ^ q - u * 2 ^ q| = |v - u| * 2 ^ q := fun u => by
    rw [← sub_mul, abs_mul, abs_of_pos hpos]
  obtain ⟨w, hw, hcase⟩ := format_in_units hj f q
  rw [hw, habs, habs, mul_le_mul_iff_left₀ hpos, mul_left_inj' hpos.ne', ne_eq, mul_left_inj' hpos.ne']
  rcases hcase with ⟨i, rfl⟩ | ⟨hlt, hsmall⟩
  · exact h.le_abs_sub_nat i
  · have hstrict := h.lt_abs_sub_of_small (hfull (hf.trans_lt hlt)) hsmall
    exact ⟨hstrict.le, fun heq => absurd heq hstrict.ne⟩

/-! The end of rounding: the carry and the overflow -/

/-- What `F64.round` makes of the rounded significand. -/
def F64.pack (neg : Bool) (k : ℕ) (q : ℤ) : F64 :=
  if k = 2 ^ 53 then (if F64.maxExp < q + 1 then .inf neg else .fin neg (2 ^ 52) (q + 1))
  else if F64.maxExp < q then .inf neg else .fin neg k q

theorem F64.round_zero (neg : Bool) (d : ℕ) (e : ℤ) : F64.round neg 0 d e = F64.zero neg := rfl

theorem F64.round_of_ne_zero (neg : Bool) {n : ℕ} (d : ℕ) (e : ℤ) (h : n ≠ 0) :
    F64.round neg n d e = F64.pack neg
      (roundHalfEven (n * pow2 (e - F64.roundExp n d e)) (d * pow2 (F64.roundExp n d e - e))) (F64.roundExp n d e) := by
  rw [F64.round, if_neg h, F64.pack]
  dsimp only
  split <;> rfl

/-- 1 or -1. -/
def sgn (neg : Bool) : ℝ := if neg then -1 else 1

@[simp] theorem sgn_true : sgn true = -1 := rfl
@[simp] theorem sgn_false : sgn false = 1 := rfl

@[simp] theorem abs_sgn (neg : Bool) : |sgn neg| = 1 := by cases neg <;> simp

theorem sgn_xor (a b : Bool) : sgn (a ^^ b) = sgn a * sgn b := by cases a <;> cases b <;> simp

theorem sgn_not (a : Bool) : sgn (!a) = -sgn a := by cases a <;> simp

theorem sgn_div (a b : Bool) : sgn a / sgn b = sgn (a ^^ b) := by cases a <;> cases b <;> simp

theorem sgn_mul_neg_iff (neg : Bool) {y : ℝ} (hy : 0 < y) : sgn neg * y < 0 ↔ neg = true := by
  cases neg <;> simp [hy, hy.le]

theorem sign_of_sgn_mul_pos {neg : Bool} {y : ℝ} (hy : 0 ≤ y) (h : 0 < sgn neg * y) : neg = false := by
  cases neg with
  | false => rfl
  | true => rw [sgn_true] at h; linarith

theorem sign_of_sgn_mul_neg {neg : Bool} {y : ℝ} (hy : 0 ≤ y) (h : sgn neg * y < 0) : neg = true := by
  cases neg with
  | false => rw [sgn_false] at h; linarith
  | true => rfl

/-- Half a unit above the largest finite value. -/
theorem overflow_bound : (2 : ℝ) ^ (1024 : ℤ) - 2 ^ (970 : ℤ) = (2 ^ 53 - 1 / 2) * 2 ^ F64.maxExp := by
  rw [F64.maxExp, show (1024 : ℤ) = 53 + 971 from rfl, show (970 : ℤ) = -1 + 971 from rfl, two_zpow_add, two_zpow_add,
    ← sub_mul]
  norm_num

/-- A finite datum is the rounding of `±y` if its magnitude is nearest to `y` in the format, even on a tie. -/
theorem F64.isRoundingOf_fin (neg : Bool) {m : ℕ} {e : ℤ} {y : ℝ} (hc : (F64.fin neg m e).Canonical) (hy : 0 ≤ y)
    (hlt : y < (2 ^ 53 - 1 / 2) * 2 ^ F64.maxExp)
    (hnear : ∀ (k : ℕ) (f : ℤ), k < 2 ^ 53 → F64.minExp ≤ f →
      |y - m * 2 ^ e| ≤ |y - k * 2 ^ f| ∧
        (|y - m * 2 ^ e| = |y - k * 2 ^ f| → (k : ℝ) * 2 ^ f ≠ m * 2 ^ e → m % 2 = 0)) :
    (F64.fin neg m e).IsRoundingOf (sgn neg * y) := by
  obtain ⟨hm, hlo, hhi, hsub⟩ := hc
  have habs : |sgn neg * y| = y := by rw [abs_mul, abs_sgn, one_mul, abs_of_nonneg hy]
  simp only [F64.IsRoundingOf, habs, overflow_bound]
  exact ⟨hlt, hm, hlo, hhi, hsub, sign_of_sgn_mul_pos hy, sign_of_sgn_mul_neg hy, fun k f hk hf _ => hnear k f hk hf⟩

theorem F64.isRoundingOf_zero (neg : Bool) : (F64.zero neg).IsRoundingOf 0 := by
  have hbound : (0 : ℝ) < (2 ^ 53 - 1 / 2) * 2 ^ F64.maxExp := mul_pos (by norm_num) (two_zpow_pos _)
  have h := F64.isRoundingOf_fin neg (m := 0) (e := F64.minExp) ⟨by norm_num, le_rfl, by decide, fun _ => rfl⟩ le_rfl
    hbound fun k f _ _ => ⟨by simp [(two_zpow_pos f).le, mul_nonneg], fun _ _ => rfl⟩
  rwa [mul_zero] at h

/-- From half a unit above the largest finite value on, the rounding is infinite. -/
theorem F64.isRoundingOf_inf (neg : Bool) {y : ℝ} (h : (2 ^ 53 - 1 / 2) * 2 ^ F64.maxExp ≤ y) :
    (F64.inf neg).IsRoundingOf (sgn neg * y) := by
  have hy : 0 < y := (mul_pos (by norm_num) (two_zpow_pos _)).trans_le h
  simp only [F64.IsRoundingOf, overflow_bound, abs_mul, abs_sgn, one_mul, abs_of_pos hy]
  exact ⟨h, (sgn_mul_neg_iff neg hy).symm⟩

section
variable {k : ℕ} {v : ℝ} {q : ℤ}

/-- A magnitude below the bound in units of `2^q` is below it at the largest exponent. -/
theorem mul_zpow_lt_overflow (hv : v < 2 ^ 53 - 1 / 2) (hq : q ≤ F64.maxExp) :
    v * 2 ^ q < (2 ^ 53 - 1 / 2) * 2 ^ F64.maxExp := by
  have hexp : (2 : ℝ) ^ q ≤ 2 ^ F64.maxExp := zpow_le_zpow_right₀ one_le_two hq
  have hpos := two_zpow_pos q
  nlinarith

theorem overflow_le_mul_zpow (hv : 2 ^ 53 - 1 / 2 ≤ v) (hq : F64.maxExp ≤ q) :
    (2 ^ 53 - 1 / 2) * 2 ^ F64.maxExp ≤ v * 2 ^ q :=
  mul_le_mul hv (zpow_le_zpow_right₀ one_le_two hq) (two_zpow_pos _).le (by linarith)

theorem two_mul_zpow_pred (v : ℝ) (q : ℤ) : 2 * v * 2 ^ (q - 1) = v * 2 ^ q := by
  rw [zpow_sub_one₀ two_ne_zero]
  ring

/-- Rounding without a carry: the significand is `k`. -/
theorem F64.isRoundingOf_pack_of_lt (neg : Bool) (h : NearestEven k v) (hk : k < 2 ^ 53) (hv : 0 ≤ v)
    (hq : F64.minExp ≤ q) (hfull : F64.minExp < q → 2 ^ 52 ≤ v) :
    (F64.pack neg k q).IsRoundingOf (sgn neg * (v * 2 ^ q)) := by
  rw [F64.pack, if_neg hk.ne]
  by_cases hover : F64.maxExp < q
  · rw [if_pos hover]
    have hv52 := hfull (lt_trans (by decide) hover)
    refine F64.isRoundingOf_inf neg ?_
    rw [← two_mul_zpow_pred v q]
    exact overflow_le_mul_zpow (by linarith) (Int.le_sub_one_of_lt hover)
  rw [if_neg hover]
  have hk' : (k : ℝ) ≤ 2 ^ 53 - 1 := by exact_mod_cast (by omega : (k : ℤ) ≤ 2 ^ 53 - 1)
  have hvlt : v < 2 ^ 53 - 1 / 2 := by
    refine lt_of_le_of_ne (by linarith [h.upper]) fun heq => ?_
    have hlast : k = 2 ^ 53 - 1 := by
      have : (2 : ℝ) ^ 53 - 1 ≤ k := by linarith [h.upper]
      have : (2 : ℤ) ^ 53 - 1 ≤ k := by exact_mod_cast this
      omega
    have heven := h.tie (.inr (by rw [heq, hlast]; norm_num))
    omega
  have hsub : k < 2 ^ 52 → q = F64.minExp := fun hlt => by
    by_contra hne
    have hv52 := hfull (lt_of_le_of_ne hq (Ne.symm hne))
    have : (k : ℝ) ≤ 2 ^ 52 - 1 := by exact_mod_cast (by omega : (k : ℤ) ≤ 2 ^ 52 - 1)
    linarith [h.upper]
  exact F64.isRoundingOf_fin neg ⟨hk, hq, not_lt.mp hover, hsub⟩ (mul_nonneg hv (two_zpow_pos q).le)
    (mul_zpow_lt_overflow hvlt (not_lt.mp hover)) fun j f hj hf => h.le_format hfull hj hf

/-- Rounding with a carry: the significand is 2^52, one exponent higher. -/
theorem F64.isRoundingOf_pack_carry (neg : Bool) (h : NearestEven (2 ^ 53) v) (hv : v < 2 ^ 53)
    (hq : F64.minExp ≤ q) : (F64.pack neg (2 ^ 53) q).IsRoundingOf (sgn neg * (v * 2 ^ q)) := by
  have hlower : (2 : ℝ) ^ 53 - 1 / 2 ≤ v := by have := h.lower; push_cast at this; linarith
  rw [F64.pack, if_pos rfl]
  by_cases hover : F64.maxExp < q + 1
  · rw [if_pos hover]
    exact F64.isRoundingOf_inf neg (overflow_le_mul_zpow hlower (Int.lt_add_one_iff.mp hover))
  rw [if_neg hover]
  have hcarry : ((2 ^ 52 : ℕ) : ℝ) * 2 ^ (q + 1) = ((2 ^ 53 : ℕ) : ℝ) * 2 ^ q := by
    rw [zpow_add_one₀ two_ne_zero]
    push_cast
    ring
  have hbound : v * 2 ^ q < (2 ^ 53 - 1 / 2) * 2 ^ F64.maxExp := by
    have hhalf : v * 2 ^ q = v / 2 * 2 ^ (q + 1) := by rw [zpow_add_one₀ two_ne_zero]; ring
    rw [hhalf]
    exact mul_zpow_lt_overflow (by linarith) (not_lt.mp hover)
  refine F64.isRoundingOf_fin neg ⟨by norm_num, by omega, not_lt.mp hover, fun hlt => absurd hlt (lt_irrefl _)⟩
    (mul_nonneg (by linarith) (two_zpow_pos q).le) hbound fun j f hj hf => ?_
  rw [hcarry]
  exact ⟨(h.le_format (fun _ => by linarith) hj hf).1, fun _ _ => by norm_num⟩

/-- The one rounding: of `v · 2^q` to the significand `k` nearest to `v`. -/
theorem F64.isRoundingOf_pack (neg : Bool) (h : NearestEven k v) (hv0 : 0 ≤ v) (hv : v < 2 ^ 53)
    (hq : F64.minExp ≤ q) (hfull : F64.minExp < q → 2 ^ 52 ≤ v) :
    (F64.pack neg k q).IsRoundingOf (sgn neg * (v * 2 ^ q)) := by
  have hk : k ≤ 2 ^ 53 := by
    have hlt : (k : ℝ) < 2 ^ 53 + 1 := by linarith [h.lower]
    exact Nat.lt_succ_iff.mp (by exact_mod_cast hlt)
  rcases hk.lt_or_eq with hlt | rfl
  · exact F64.isRoundingOf_pack_of_lt neg h hlt hv0 hq hfull
  · exact F64.isRoundingOf_pack_carry neg h hv hq

end

/-! The exponent of a rounding -/

theorem log2_bounds {m : ℕ} (hm : m ≠ 0) : (2 : ℝ) ^ (m.log2 : ℤ) ≤ m ∧ (m : ℝ) < 2 ^ ((m.log2 : ℤ) + 1) := by
  constructor
  · exact_mod_cast Nat.log2_self_le hm
  · exact_mod_cast Nat.lt_log2_self (n := m)

/-- The leading bits of a ratio: it lies strictly between the neighbouring powers of two. -/
theorem ratio_bounds {n d : ℕ} (hn : n ≠ 0) (hd : d ≠ 0) :
    (2 : ℝ) ^ ((n.log2 : ℤ) - d.log2 - 1) < (n : ℝ) / d ∧ (n : ℝ) / d < 2 ^ ((n.log2 : ℤ) - d.log2 + 1) := by
  obtain ⟨hn1, hn2⟩ := log2_bounds hn
  obtain ⟨hd1, hd2⟩ := log2_bounds hd
  have hdpos : (0 : ℝ) < d := (two_zpow_pos _).trans_le hd1
  rw [lt_div_iff₀ hdpos, div_lt_iff₀ hdpos]
  constructor
  · calc (2 : ℝ) ^ ((n.log2 : ℤ) - d.log2 - 1) * d
        < 2 ^ ((n.log2 : ℤ) - d.log2 - 1) * 2 ^ ((d.log2 : ℤ) + 1) := by gcongr
      _ = 2 ^ (n.log2 : ℤ) := by rw [← two_zpow_add]; congr 1; ring
      _ ≤ n := hn1
  · calc (n : ℝ) < 2 ^ ((n.log2 : ℤ) + 1) := hn2
      _ = 2 ^ ((n.log2 : ℤ) - d.log2 + 1) * 2 ^ (d.log2 : ℤ) := by rw [← two_zpow_add]; congr 1; ring
      _ ≤ 2 ^ ((n.log2 : ℤ) - d.log2 + 1) * d := by gcongr

/-- The first guess of the exponent leaves 52 or 53 bits before the point. -/
theorem roundExp_guess_bounds {n d : ℕ} (e : ℤ) (hn : n ≠ 0) (hd : d ≠ 0) :
    let v := (n : ℝ) / d * 2 ^ e / 2 ^ (e + n.log2 - d.log2 - 52)
    2 ^ 51 < v ∧ v < 2 ^ 53 := by
  intro v
  obtain ⟨hlo, hhi⟩ := ratio_bounds hn hd
  have hv : v = (n : ℝ) / d * 2 ^ (52 - ((n.log2 : ℤ) - d.log2)) := by
    simp only [v]
    rw [mul_div_assoc, ← zpow_sub₀ two_ne_zero]
    congr 2
    ring
  have hscale := two_zpow_pos (52 - ((n.log2 : ℤ) - d.log2))
  rw [hv]
  constructor
  · calc (2 : ℝ) ^ 51 = 2 ^ ((n.log2 : ℤ) - d.log2 - 1) * 2 ^ (52 - ((n.log2 : ℤ) - d.log2)) := by
          rw [← two_zpow_add, ← zpow_natCast]; congr 1; push_cast; ring
      _ < _ := by gcongr
  · calc _ < 2 ^ ((n.log2 : ℤ) - d.log2 + 1) * 2 ^ (52 - ((n.log2 : ℤ) - d.log2)) := by gcongr
      _ = (2 : ℝ) ^ 53 := by rw [← two_zpow_add, ← zpow_natCast]; congr 1; push_cast; ring

/-- The magnitude in units of the chosen exponent has a significand below 2^53, and a full one above the least
exponent. -/
theorem roundExp_spec {n d : ℕ} (e : ℤ) (hn : n ≠ 0) (hd : d ≠ 0) :
    let q := F64.roundExp n d e
    let v := (n : ℝ) / d * 2 ^ e / 2 ^ q
    F64.minExp ≤ q ∧ v < 2 ^ 53 ∧ (F64.minExp < q → 2 ^ 52 ≤ v) := by
  obtain ⟨hlo, hhi⟩ := roundExp_guess_bounds e hn hd
  simp only [F64.roundExp]
  generalize e + (n.log2 : ℤ) - d.log2 - 52 = q at hlo hhi ⊢
  have hsmall : n * pow2 (e - q) / (d * pow2 (q - e)) < 2 ^ 52 ↔ (n : ℝ) / d * 2 ^ e / 2 ^ q < 2 ^ 52 := by
    have hden : 0 < d * pow2 (q - e) := Nat.mul_pos (Nat.pos_of_ne_zero hd) (pow2_pos _)
    rw [← scaled_quotient, Nat.div_lt_iff_lt_mul hden, div_lt_iff₀ (Nat.cast_pos.mpr hden)]
    exact_mod_cast Iff.rfl
  generalize (n : ℝ) / d * 2 ^ e = y at hlo hhi hsmall ⊢
  have hpos := two_zpow_pos q
  have hfull : ∃ p, (if n * pow2 (e - q) / (d * pow2 (q - e)) < 2 ^ 52 then q - 1 else q) = p ∧
      2 ^ 52 ≤ y / 2 ^ p ∧ y / 2 ^ p < 2 ^ 53 := by
    refine ⟨_, rfl, ?_⟩
    split
    next h =>
      rw [hsmall] at h
      rw [zpow_sub_one₀ two_ne_zero, ← div_div, div_inv_eq_mul]
      exact ⟨by linarith, by linarith⟩
    next h =>
      rw [hsmall, not_lt] at h
      exact ⟨h, hhi⟩
  obtain ⟨p, hp, hp52, hp53⟩ := hfull
  rw [hp]
  refine ⟨le_max_right _ _, ?_, fun hlt => ?_⟩
  · have hy : 0 ≤ y := by
      by_contra hneg
      have := div_neg_of_neg_of_pos (not_le.mp hneg) (two_zpow_pos p)
      linarith
    refine lt_of_le_of_lt ?_ hp53
    have : (2 : ℝ) ^ p ≤ 2 ^ max p F64.minExp := zpow_le_zpow_right₀ one_le_two (le_max_left _ _)
    have := two_zpow_pos p
    gcongr
  · rwa [max_eq_left (by omega)]

/-- The significand that `F64.round` chooses is nearest to the magnitude in units of the chosen exponent. -/
theorem nearestEven_round (n : ℕ) {d : ℕ} (e q : ℤ) (hd : d ≠ 0) :
    NearestEven (roundHalfEven (n * pow2 (e - q)) (d * pow2 (q - e))) ((n : ℝ) / d * 2 ^ e / 2 ^ q) := by
  rw [← scaled_quotient]
  exact nearestEven_roundHalfEven _ (Nat.mul_pos (Nat.pos_of_ne_zero hd) (pow2_pos _))

/-- `F64.round` rounds correctly. -/
theorem F64.isRoundingOf_round (neg : Bool) (n : ℕ) {d : ℕ} (e : ℤ) (hd : d ≠ 0) :
    (F64.round neg n d e).IsRoundingOf (sgn neg * ((n : ℝ) / d * 2 ^ e)) := by
  rcases eq_or_ne n 0 with rfl | hn
  · simpa [F64.round_zero] using F64.isRoundingOf_zero neg
  obtain ⟨hq, hv, hfull⟩ := roundExp_spec e hn hd
  have h := F64.isRoundingOf_pack neg (nearestEven_round n e _ hd) (by positivity) hv hq hfull
  rwa [div_mul_cancel₀ _ (two_zpow_pos _).ne', ← F64.round_of_ne_zero neg d e hn] at h

/-! A root known up to its next bit -/

/-- `v'` stands for `v`: no multiple of 1/2 lies between them, or is `v'`, or is `v`. -/
def StandsFor (v' v : ℝ) : Prop :=
  ∀ c : ℤ, ((c : ℝ) / 2 ≤ v' → (c : ℝ) / 2 < v) ∧ (v' ≤ c / 2 → v < c / 2)

theorem NearestEven.of_standsFor {k : ℕ} {v' v : ℝ} (h : NearestEven k v') (hs : StandsFor v' v) :
    NearestEven k v := by
  have hlower : (k : ℝ) - 1 / 2 < v := by
    have hc := (hs (2 * k - 1)).1
    push_cast at hc
    linarith [hc (by linarith [h.lower])]
  have hupper : v < k + 1 / 2 := by
    have hc := (hs (2 * k + 1)).2
    push_cast at hc
    linarith [hc (by linarith [h.upper])]
  exact ⟨hlower.le, hupper.le, fun htie => by rcases htie with heq | heq <;> linarith⟩

/-- An odd integer stands for every real strictly between its even neighbours, two or more places further left. -/
theorem standsFor_of_odd {r t : ℕ} {y : ℝ} (ht : 2 ≤ t) (hlo : 2 * (r : ℝ) < y) (hhi : y < 2 * r + 2) :
    StandsFor ((2 * r + 1 : ℕ) / 2 ^ t) (y / 2 ^ t) := by
  intro c
  obtain ⟨u, rfl⟩ : ∃ u, t = u + 2 := ⟨t - 2, by omega⟩
  have hpow : (0 : ℝ) < 2 ^ (u + 2) := by positivity
  have hhalf : (c : ℝ) / 2 = (2 * (c * 2 ^ u) : ℤ) / 2 ^ (u + 2) := by
    push_cast
    rw [pow_add]
    field_simp
  rw [hhalf, div_le_div_iff_of_pos_right hpow, div_le_div_iff_of_pos_right hpow, div_lt_div_iff_of_pos_right hpow,
    div_lt_div_iff_of_pos_right hpow, ← Int.cast_natCast, Int.cast_le, Int.cast_le]
  constructor
  · intro h
    have heven : ((2 * (c * 2 ^ u) : ℤ) : ℝ) ≤ (2 * r : ℤ) := Int.cast_le.mpr (by omega)
    push_cast at heven ⊢
    linarith
  · intro h
    have heven : ((2 * r + 2 : ℤ) : ℝ) ≤ (2 * (c * 2 ^ u) : ℤ) := Int.cast_le.mpr (by omega)
    push_cast at heven ⊢
    linarith

/-- Rounding a long odd integer rounds every real strictly between its even neighbours. -/
theorem F64.isRoundingOf_round_odd {r : ℕ} {y : ℝ} (e : ℤ) (hr : 2 ^ 54 ≤ r) (hlo : 2 * (r : ℝ) < y)
    (hhi : y < 2 * r + 2) : (F64.round false (2 * r + 1) 1 e).IsRoundingOf (y * 2 ^ e) := by
  have hn : 2 * r + 1 ≠ 0 := by omega
  obtain ⟨hq, hv, hfull⟩ := roundExp_spec e hn one_ne_zero
  have hnear := nearestEven_round (2 * r + 1) e (F64.roundExp (2 * r + 1) 1 e) one_ne_zero
  rw [F64.round_of_ne_zero false 1 e hn]
  generalize F64.roundExp (2 * r + 1) 1 e = q at hq hv hfull hnear ⊢
  have hpos := two_zpow_pos q
  have hlong : e + 2 ≤ q := by
    have hrr : (2 : ℝ) ^ 54 ≤ r := by exact_mod_cast hr
    have hN : (2 : ℝ) ^ (55 : ℤ) ≤ (2 * r + 1 : ℕ) := by
      have htwice : (2 : ℝ) ^ (55 : ℤ) = 2 * 2 ^ 54 := by norm_num
      rw [htwice, Nat.cast_add, Nat.cast_mul, Nat.cast_ofNat, Nat.cast_one]
      linarith
    have h55 : (2 : ℝ) ^ (55 : ℤ) * 2 ^ e < 2 ^ (53 : ℤ) * 2 ^ q := by
      rw [div_lt_iff₀ hpos, Nat.cast_one, div_one] at hv
      exact (mul_le_mul_of_nonneg_right hN (two_zpow_pos e).le).trans_lt hv
    rw [← two_zpow_add, ← two_zpow_add, zpow_lt_zpow_iff_right₀ one_lt_two] at h55
    omega
  obtain ⟨t, rfl⟩ : ∃ t : ℕ, q = e + t := ⟨(q - e).toNat, by omega⟩
  have hscale : ∀ x : ℝ, x * 2 ^ e / 2 ^ (e + (t : ℤ)) = x / 2 ^ t := fun x => by
    rw [two_zpow_add, zpow_natCast, mul_comm, mul_div_mul_left _ _ (two_zpow_pos e).ne']
  rw [Nat.cast_one, div_one, hscale] at hv hfull hnear
  have hs : StandsFor ((2 * r + 1 : ℕ) / 2 ^ t) (y / 2 ^ t) := standsFor_of_odd (by omega) hlo hhi
  have hv' : y / 2 ^ t < 2 ^ 53 := by
    have hc := (hs (2 ^ 54)).2
    norm_num at hc hv ⊢
    exact hc hv.le
  have hfull' : F64.minExp < e + t → 2 ^ 52 ≤ y / 2 ^ t := fun hlt => by
    have hc := (hs (2 ^ 53)).1
    have h52 := hfull hlt
    norm_num at hc h52 ⊢
    exact (hc h52).le
  have hy : 0 ≤ y / 2 ^ t := div_nonneg (by linarith [Nat.cast_nonneg (α := ℝ) r]) (by positivity)
  have h := F64.isRoundingOf_pack false (hnear.of_standsFor hs) hy hv' hq hfull'
  rwa [← hscale, div_mul_cancel₀ _ hpos.ne', sgn_false, one_mul (y * 2 ^ e)] at h

/-! Finite data as reals -/

theorem cast_signed (neg : Bool) (m : ℕ) : (signed neg m : ℝ) = sgn neg * m := by
  cases neg <;> simp [signed]

theorem F64.denotes_fin (neg : Bool) (m : ℕ) (e : ℤ) : (F64.fin neg m e).Denotes (sgn neg * (m * 2 ^ e)) := by
  rw [← mul_assoc, ← cast_signed]
  rfl

/-- A real is its magnitude with a sign that agrees with it. -/
theorem eq_sgn_mul_abs {neg : Bool} {x : ℝ} (hpos : 0 < x → neg = false) (hneg : x < 0 → neg = true) :
    x = sgn neg * |x| := by
  rcases lt_trichotomy x 0 with h | rfl | h
  · rw [hneg h, abs_of_neg h, sgn_true, neg_mul_neg, one_mul]
  · rw [abs_zero, mul_zero]
  · rw [hpos h, abs_of_pos h, sgn_false, one_mul]

/-- A datum that denotes a real is finite, and the real is its sign times its magnitude. -/
theorem F64.denotes_iff {d : F64} {x : ℝ} :
    d.Denotes x ↔ ∃ neg m e, d = .fin neg m e ∧ x = sgn neg * (m * 2 ^ e) := by
  constructor
  · intro h
    cases d with
    | nan => exact h.elim
    | inf neg => exact h.elim
    | fin neg m e =>
      refine ⟨neg, m, e, rfl, ?_⟩
      rw [← mul_assoc, ← cast_signed]
      exact h
  · rintro ⟨neg, m, e, rfl, rfl⟩
    exact F64.denotes_fin neg m e

/-! Exact results -/

/-- A rounding of a magnitude of the format is exact. -/
theorem F64.denotes_of_isRoundingOf {d : F64} {x : ℝ} {k : ℕ} {f : ℤ} (h : d.IsRoundingOf x)
    (hx : |x| = k * 2 ^ f) (hk : k < 2 ^ 53) (hlo : F64.minExp ≤ f) (hhi : f ≤ F64.maxExp) : d.Denotes x := by
  cases d with
  | nan => exact h
  | inf neg =>
    have hk' : (k : ℝ) ≤ 2 ^ 53 - 1 := by exact_mod_cast (by omega : (k : ℤ) ≤ 2 ^ 53 - 1)
    have hlt := mul_zpow_lt_overflow (by linarith : (k : ℝ) < 2 ^ 53 - 1 / 2) hhi
    have hle := h.1
    rw [overflow_bound, hx] at hle
    exact absurd hlt (not_lt.mpr hle)
  | fin neg m e =>
    obtain ⟨-, -, -, -, -, hpos, hneg, hnear⟩ := h
    have hle := (hnear k f hk hlo hhi).1
    rw [hx, sub_self, abs_zero] at hle
    have hmag : |x| = m * 2 ^ e := by
      rw [hx]
      exact sub_eq_zero.mp (abs_nonpos_iff.mp hle)
    rw [eq_sgn_mul_abs hpos hneg, hmag]
    exact F64.denotes_fin neg m e

/-- The data `F64.round` makes are of the format. -/
theorem F64.canonical_of_isRoundingOf {d : F64} {x : ℝ} (h : d.IsRoundingOf x) : d.Canonical := by
  cases d with
  | nan => trivial
  | inf neg => trivial
  | fin neg m e =>
    obtain ⟨-, hm, hlo, hhi, hsub, -⟩ := h
    exact ⟨hm, hlo, hhi, hsub⟩

theorem F64.ne_nan_of_isRoundingOf {d : F64} {x : ℝ} (h : d.IsRoundingOf x) : d ≠ .nan := by
  rintro rfl
  exact h

/-- An integer of at most 53 bits at an exponent of the format is rounded to itself. -/
theorem F64.denotes_round (neg : Bool) {n : ℕ} {e : ℤ} (hn : n < 2 ^ 53) (hlo : F64.minExp ≤ e)
    (hhi : e ≤ F64.maxExp) : (F64.round neg n 1 e).Denotes (sgn neg * (n * 2 ^ e)) := by
  have h := F64.isRoundingOf_round neg n e one_ne_zero
  rw [Nat.cast_one, div_one] at h
  refine F64.denotes_of_isRoundingOf h ?_ hn hlo hhi
  rw [abs_mul, abs_sgn, one_mul, abs_of_nonneg (mul_nonneg n.cast_nonneg (two_zpow_pos e).le)]

/-- The datum of the pattern made for a rounded datum is that datum. -/
theorem F64.ofBits_toBits_round (neg : Bool) (n : ℕ) {d : ℕ} (e : ℤ) (b : DWord) (hd : d ≠ 0) :
    F64.ofBits ((F64.round neg n d e).toBits b) = F64.round neg n d e := by
  have h := F64.isRoundingOf_round neg n e hd
  exact F64.ofBits_toBits (F64.canonical_of_isRoundingOf h) (F64.ne_nan_of_isRoundingOf h) b

end Sys2Proof.Machine
end

section
/-! PROOF. Widening a binary32 pattern (spec/00_scope.md R10, 44_sampler.md R181). -/

namespace Sys2Proof.Machine

section
variable {w : Word}

theorem F64.ofBits32_inf (hex : (w.extractLsb' 23 8).toNat = 255) (hfrac : (w.extractLsb' 0 23).toNat = 0) :
    F64.ofBits32 w = .inf (w.getLsbD 31) := by
  simp only [F64.ofBits32, if_pos hex, if_pos hfrac]

theorem F64.ofBits32_nan (hex : (w.extractLsb' 23 8).toNat = 255) (hfrac : (w.extractLsb' 0 23).toNat ≠ 0) :
    F64.ofBits32 w = .nan := by
  simp only [F64.ofBits32, if_pos hex, if_neg hfrac]

theorem F64.ofBits32_subnormal (hex : (w.extractLsb' 23 8).toNat = 0) :
    F64.ofBits32 w = F64.round (w.getLsbD 31) (w.extractLsb' 0 23).toNat 1 (-149) := by
  have hne : (w.extractLsb' 23 8).toNat ≠ 255 := by rw [hex]; decide
  simp only [F64.ofBits32, if_neg hne, if_pos hex]

theorem F64.ofBits32_normal (h0 : 0 < (w.extractLsb' 23 8).toNat) (h255 : (w.extractLsb' 23 8).toNat < 255) :
    F64.ofBits32 w = F64.round (w.getLsbD 31) (2 ^ 23 + (w.extractLsb' 0 23).toNat) 1
      (((w.extractLsb' 23 8).toNat : Int) - 150) := by
  simp only [F64.ofBits32, if_neg h255.ne, if_neg h0.ne']

end

/-- Widening a pattern of a finite binary32 is exact, and keeps the sign, that of a zero included. -/
theorem widen_of_round {w : Word} (b : DWord) {neg : Bool} {n : ℕ} {e : ℤ}
    (h : F64.ofBits32 w = F64.round neg n 1 e) (hn : n < 2 ^ 24) (hlo : -149 ≤ e) (hhi : e ≤ 104) :
    (F64.ofBits (widen b w)).Denotes ((signed neg n : ℝ) * 2 ^ e) ∧ (widen b w).getLsbD 63 = neg := by
  have hlo' : F64.minExp ≤ e := le_trans (by decide) hlo
  have hhi' : e ≤ F64.maxExp := hhi.trans (by decide)
  have hexact := F64.denotes_round neg (hn.trans (by norm_num)) hlo' hhi'
  rw [widen, h, F64.ofBits_toBits_round _ _ _ _ one_ne_zero, cast_signed, mul_assoc]
  refine ⟨hexact, ?_⟩
  rw [F64.getLsbD_toBits (F64.ne_nan_of_isRoundingOf (F64.isRoundingOf_round neg n e one_ne_zero)), F64.sign_round]

/-- Settles O59: subnormal and normal patterns are integers of at most 24 bits, which the rounding keeps; infinities
and NaNs keep their class. -/
theorem wideningIsExact : Obligations.WideningIsExact := by
  intro w b neg ex frac d
  have hfrac : frac < 2 ^ 23 := (w.extractLsb' 0 23).isLt
  have hsub (h0 : ex = 0) := widen_of_round b (F64.ofBits32_subnormal h0) (by omega) (by norm_num) (by norm_num)
  have hnormal (h0 : 0 < ex) (h255 : ex < 255) :=
    widen_of_round b (F64.ofBits32_normal h0 h255) (by omega) (by omega) (by omega)
  refine ⟨fun h0 => (hsub h0).1, fun h0 h255 => (hnormal h0 h255).1, fun h255 => ?_, fun h255 h0 => ?_,
    fun h255 h0 => ?_⟩
  · rcases Nat.eq_zero_or_pos ex with h0 | h0
    · exact (hsub h0).2
    · exact (hnormal h0 h255).2
  · simp only [d]
    rw [widen, F64.ofBits32_inf h255 h0, F64.ofBits_toBits (d := .inf neg) trivial F64.noConfusion]
  · simp only [d]
    rw [widen, F64.ofBits32_nan h255 h0]
    exact F64.ofBits_quietNaNPattern b

end Sys2Proof.Machine
end

section
/-! PROOF. The sampler's arithmetic is correctly rounded (spec/00_scope.md R10, 44_sampler.md R171; log entry 20). On
finite data every operation is an exact computation and one rounding. -/

namespace Sys2Proof.Machine

/-! Finite operands as patterns -/

/-- A pattern of a finite datum: its sign is bit 63, and a zero stands at the least exponent. -/
theorem exists_fin_of_denotes {w : DWord} {x : ℝ} (h : (F64.ofBits w).Denotes x) :
    ∃ (m : ℕ) (e : ℤ), F64.ofBits w = .fin (w.getLsbD 63) m e ∧ x = sgn (w.getLsbD 63) * (m * 2 ^ e) ∧
      (m = 0 → e = F64.minExp) := by
  have hc := F64.canonical_ofBits w
  obtain ⟨neg, m, e, hd, rfl⟩ := F64.denotes_iff.mp h
  have hsign := F64.sign_ofBits (w := w) (by rw [hd]; exact F64.noConfusion)
  rw [hd, F64.sign_fin] at hsign
  subst hsign
  rw [hd] at hc
  obtain ⟨-, -, -, hsub⟩ := hc
  exact ⟨m, e, hd, rfl, fun h0 => hsub (by omega)⟩

theorem sgn_ne_zero (neg : Bool) : sgn neg ≠ 0 := by cases neg <;> simp

theorem sgn_mul_eq_zero_iff (neg : Bool) (m : ℕ) (e : ℤ) : sgn neg * (m * 2 ^ e) = 0 ↔ m = 0 := by
  simp [sgn_ne_zero, (two_zpow_pos e).ne']

/-- An integer of units of `2^g` is the datum it counts. -/
theorem cast_inUnits (neg : Bool) (m : ℕ) {e g : ℤ} (h : g ≤ e) :
    (inUnits neg m e g : ℝ) * 2 ^ g = sgn neg * (m * 2 ^ e) := by
  rw [inUnits, cast_signed, Nat.cast_mul, pow2_of_nonneg (sub_nonneg.mpr h), mul_assoc, mul_assoc, ← two_zpow_add,
    sub_add_cancel]

/-! Addition and subtraction -/

section
variable (a b : Bool) (m n : ℕ) (e f : ℤ)

/-- The exact sum in units of the smaller exponent. -/
theorem cast_add_inUnits :
    ((inUnits a m e (min e f) + inUnits b n f (min e f) : ℤ) : ℝ) * 2 ^ min e f =
      sgn a * (m * 2 ^ e) + sgn b * (n * 2 ^ f) := by
  rw [Int.cast_add, add_mul, cast_inUnits a m (min_le_left e f), cast_inUnits b n (min_le_right e f)]

theorem F64.add_fin_of_sum_zero (h : sgn a * ((m : ℝ) * 2 ^ e) + sgn b * (n * 2 ^ f) = 0) :
    (F64.fin a m e).add (.fin b n f) = F64.zero (a && b) := by
  rw [← cast_add_inUnits, mul_eq_zero, or_iff_left (two_zpow_pos _).ne', Int.cast_eq_zero] at h
  simp only [F64.add, h, if_true]

theorem sgn_mul_natAbs (x : ℤ) : sgn (decide (x < 0)) * (x.natAbs : ℝ) = x := by
  rw [Nat.cast_natAbs, Int.cast_abs]
  refine (eq_sgn_mul_abs (fun h => ?_) (fun h => ?_)).symm
  · exact decide_eq_false (not_lt.mpr (Int.cast_pos.mp h).le)
  · exact decide_eq_true (Int.cast_lt_zero.mp h)

theorem F64.isRoundingOf_add_fin :
    ((F64.fin a m e).add (.fin b n f)).IsRoundingOf (sgn a * (m * 2 ^ e) + sgn b * (n * 2 ^ f)) := by
  by_cases h : sgn a * ((m : ℝ) * 2 ^ e) + sgn b * (n * 2 ^ f) = 0
  · rw [F64.add_fin_of_sum_zero a b m n e f h, h]
    exact F64.isRoundingOf_zero _
  · rw [← cast_add_inUnits] at h ⊢
    simp only [F64.add]
    generalize inUnits a m e (min e f) + inUnits b n f (min e f) = x at h ⊢
    have hx : x ≠ 0 := by rintro rfl; simp at h
    have hround := F64.isRoundingOf_round (decide (x < 0)) x.natAbs (min e f) one_ne_zero
    rw [Nat.cast_one, div_one, ← mul_assoc, sgn_mul_natAbs] at hround
    rwa [if_neg hx]

theorem F64.sub_fin : (F64.fin a m e).sub (.fin b n f) = (F64.fin a m e).add (.fin (!b) n f) := rfl

theorem F64.isRoundingOf_sub_fin :
    ((F64.fin a m e).sub (.fin b n f)).IsRoundingOf (sgn a * (m * 2 ^ e) - sgn b * (n * 2 ^ f)) := by
  have h := F64.isRoundingOf_add_fin a (!b) m n e f
  rwa [sgn_not, neg_mul, ← sub_eq_add_neg] at h

theorem F64.sub_fin_of_difference_zero (h : sgn a * ((m : ℝ) * 2 ^ e) - sgn b * (n * 2 ^ f) = 0) :
    (F64.fin a m e).sub (.fin b n f) = F64.zero (a && !b) := by
  rw [F64.sub_fin, F64.add_fin_of_sum_zero]
  rwa [sgn_not, neg_mul, ← sub_eq_add_neg]

/-! Multiplication, division and comparison -/

theorem F64.mul_fin : (F64.fin a m e).mul (.fin b n f) = F64.round (a ^^ b) (m * n) 1 (e + f) := rfl

theorem F64.isRoundingOf_mul_fin :
    ((F64.fin a m e).mul (.fin b n f)).IsRoundingOf (sgn a * (m * 2 ^ e) * (sgn b * (n * 2 ^ f))) := by
  have h := F64.isRoundingOf_round (a ^^ b) (m * n) (e + f) one_ne_zero
  have hprod : sgn (a ^^ b) * (((m * n : ℕ) : ℝ) / (1 : ℕ) * 2 ^ (e + f)) =
      sgn a * (m * 2 ^ e) * (sgn b * (n * 2 ^ f)) := by
    rw [sgn_xor, two_zpow_add]
    push_cast
    ring
  rwa [hprod] at h

theorem F64.div_fin {n : ℕ} (hn : n ≠ 0) :
    (F64.fin a m e).div (.fin b n f) = F64.round (a ^^ b) m n (e - f) := by
  simp only [F64.div, if_neg hn]

theorem F64.isRoundingOf_div_fin {n : ℕ} (hn : n ≠ 0) :
    ((F64.fin a m e).div (.fin b n f)).IsRoundingOf (sgn a * (m * 2 ^ e) / (sgn b * (n * 2 ^ f))) := by
  have h := F64.isRoundingOf_round (a ^^ b) m (e - f) hn
  rwa [← sgn_div, zpow_sub₀ two_ne_zero, div_mul_div_comm, div_mul_div_comm, ← F64.div_fin a b m e f hn] at h

theorem F64.gt_fin_iff :
    (F64.fin a m e).gt (.fin b n f) = true ↔ sgn b * ((n : ℝ) * 2 ^ f) < sgn a * (m * 2 ^ e) := by
  rw [← cast_inUnits a m (min_le_left e f), ← cast_inUnits b n (min_le_right e f),
    mul_lt_mul_iff_left₀ (two_zpow_pos _), Int.cast_lt]
  simp only [F64.gt, decide_eq_true_eq]

end

/-! Square root -/

/-- The bits of the root are fixed from the highest to the lowest. -/
theorem sqrtBits_eq_sqrt (n : ℕ) :
    ∀ k r : ℕ, r * r ≤ n → n < (r + 2 ^ k) * (r + 2 ^ k) → sqrtBits n k r = Nat.sqrt n
  | 0, _, hlo, hhi => Nat.eq_sqrt.mpr ⟨hlo, hhi⟩
  | k + 1, r, hlo, hhi => by
    rw [sqrtBits]
    by_cases h : (r + 2 ^ k) * (r + 2 ^ k) ≤ n
    · rw [if_pos h]
      have htop : r + 2 ^ k + 2 ^ k = r + 2 ^ (k + 1) := by rw [pow_succ]; ring
      exact sqrtBits_eq_sqrt n k _ h (by rwa [htop])
    · rw [if_neg h]
      exact sqrtBits_eq_sqrt n k r hlo (not_le.mp h)

theorem natSqrt_eq_sqrt (n : ℕ) : natSqrt n = Nat.sqrt n := by
  refine sqrtBits_eq_sqrt n _ 0 (Nat.zero_le n) ?_
  rw [zero_add, ← pow_add]
  exact Nat.lt_log2_self.trans_le (Nat.pow_le_pow_right two_pos (by omega))

/-- The integer whose root `F64.sqrt` takes: m · 2^e scaled by 2^120, at an even exponent. -/
def sqrtScaled (m : ℕ) (e : ℤ) : ℕ := m * pow2 (e % 2) * 2 ^ 120

theorem F64.sqrt_fin_of_pos {m : ℕ} (e : ℤ) (hm : m ≠ 0) :
    (F64.fin false m e).sqrt =
      let r := Nat.sqrt (sqrtScaled m e)
      F64.round false (2 * r + (if r * r = sqrtScaled m e then 0 else 1)) 1 ((e - e % 2) / 2 - 61) := by
  simp only [F64.sqrt, if_neg hm, Bool.false_eq_true, if_false, natSqrt_eq_sqrt]
  rfl

theorem F64.sqrt_fin_zero (neg : Bool) (e : ℤ) : (F64.fin neg 0 e).sqrt = .fin neg 0 e := rfl

theorem F64.sqrt_fin_of_neg {m : ℕ} (e : ℤ) (hm : m ≠ 0) : (F64.fin true m e).sqrt = .nan := by
  simp only [F64.sqrt, if_neg hm, if_true]

/-- The exact root in terms of the scaled integer's root. -/
theorem sqrt_eq_sqrt_scaled (m : ℕ) (e : ℤ) :
    Real.sqrt (m * 2 ^ e) = 2 * Real.sqrt (sqrtScaled m e) * 2 ^ ((e - e % 2) / 2 - 61) := by
  have hscale : ((m : ℝ) * 2 ^ e) = sqrtScaled m e * (2 ^ ((e - e % 2) / 2 - 60)) ^ 2 := by
    rw [sqrtScaled, Nat.cast_mul, Nat.cast_mul, pow2_of_nonneg (by omega), ← zpow_natCast, ← zpow_mul, Nat.cast_pow,
      Nat.cast_ofNat, ← zpow_natCast, mul_assoc, mul_assoc, ← two_zpow_add, ← two_zpow_add]
    congr 2
    push_cast
    omega
  rw [hscale, Real.sqrt_mul (Nat.cast_nonneg _), Real.sqrt_sq (two_zpow_pos _).le,
    show (e - e % 2) / 2 - 60 = 1 + ((e - e % 2) / 2 - 61) by ring, two_zpow_add, zpow_one]
  ring

/-- The root is rounded correctly: the extra bit marks a root that is not exact. -/
theorem F64.isRoundingOf_sqrt_fin {m : ℕ} (e : ℤ) (hm : m ≠ 0) :
    (F64.fin false m e).sqrt.IsRoundingOf (Real.sqrt (m * 2 ^ e)) := by
  rw [F64.sqrt_fin_of_pos e hm, sqrt_eq_sqrt_scaled]
  have hlarge : 2 ^ 60 ≤ Nat.sqrt (sqrtScaled m e) := by
    rw [Nat.le_sqrt, sqrtScaled, ← pow_add]
    exact Nat.le_mul_of_pos_left _ (Nat.mul_pos (Nat.pos_of_ne_zero hm) (pow2_pos _))
  generalize sqrtScaled m e = n at hlarge ⊢
  dsimp only
  by_cases hexact : Nat.sqrt n * Nat.sqrt n = n
  · have hroot : Real.sqrt n = Nat.sqrt n := by
      conv_lhs => rw [← hexact]
      rw [Nat.cast_mul, Real.sqrt_mul_self (Nat.cast_nonneg _)]
    have h := F64.isRoundingOf_round false (2 * Nat.sqrt n) ((e - e % 2) / 2 - 61) one_ne_zero
    rw [Nat.cast_one, div_one, sgn_false, one_mul, Nat.cast_mul, Nat.cast_ofNat] at h
    rwa [if_pos hexact, add_zero, hroot]
  · have hlo : (Nat.sqrt n : ℝ) < Real.sqrt n := by
      refine lt_of_le_of_ne Real.nat_sqrt_le_real_sqrt fun heq => hexact ?_
      have hsq : (Nat.sqrt n : ℝ) * Nat.sqrt n = n := by rw [heq, Real.mul_self_sqrt (Nat.cast_nonneg _)]
      exact_mod_cast hsq
    have hhi : Real.sqrt n < Nat.sqrt n + 1 := Real.real_sqrt_lt_nat_sqrt_succ
    rw [if_neg hexact]
    exact F64.isRoundingOf_round_odd _ ((by norm_num : 2 ^ 54 ≤ 2 ^ 60).trans hlarge) (by linarith) (by linarith)

/-! The sign bit -/

theorem clear_sign_bit (neg : Bool) (ex : BitVec 11) (frac : BitVec 52) :
    (bit neg ++ (ex ++ frac)) &&& 0x7FFFFFFFFFFFFFFF = bit false ++ (ex ++ frac) := by
  have hmask : (0x7FFFFFFFFFFFFFFF : DWord) = (0 : BitVec 1) ++ (BitVec.allOnes 11 ++ BitVec.allOnes 52) := by decide
  rw [hmask, BitVec.and_append, BitVec.and_append, BitVec.and_allOnes, BitVec.and_allOnes]
  cases neg <;> rfl

/-- `abs` clears the sign bit. -/
theorem F64.abs_ofBits (v : DWord) : (F64.ofBits v).abs = F64.ofBits (v &&& 0x7FFFFFFFFFFFFFFF) := by
  obtain ⟨neg, ex, frac, rfl⟩ := exists_fields v
  rw [clear_sign_bit, F64.ofBits_fields, F64.ofBits_fields]
  by_cases hmax : ex.toNat = 2047
  · by_cases hfrac : frac.toNat = 0 <;> simp [hmax, hfrac, F64.abs]
  · by_cases hzero : ex.toNat = 0 <;> simp [hmax, hzero, F64.abs]

theorem F64.ofBits_signed_zero (neg : Bool) :
    F64.ofBits (if neg then 0x8000000000000000 else 0) = F64.zero neg := by
  cases neg <;> decide

/-! Infinite operands and zero divisors -/

section
variable (a g : Bool) (m : ℕ) (e : ℤ)

theorem F64.inf_mul_fin : (F64.inf a).mul (.fin g m e) = if m = 0 then .nan else .inf (a ^^ g) := rfl

theorem F64.fin_mul_inf : (F64.fin g m e).mul (.inf a) = if m = 0 then .nan else .inf (a ^^ g) := by
  rw [Bool.xor_comm]
  rfl

theorem F64.fin_div_inf : (F64.fin g m e).div (.inf a) = F64.zero (a ^^ g) := by
  rw [Bool.xor_comm]
  rfl

theorem F64.fin_div_zero : (F64.fin g m e).div (F64.zero a) = if m = 0 then .nan else .inf (a ^^ g) := by
  rw [Bool.xor_comm]
  rfl

theorem F64.inf_sub_inf (b : Bool) : (F64.inf a).sub (.inf b) = if a = b then .nan else .inf a := by
  cases a <;> cases b <;> rfl

/-- A negative finite number has no root. -/
theorem F64.sqrt_fin_of_denotes_neg (h : sgn g * ((m : ℝ) * 2 ^ e) < 0) : (F64.fin g m e).sqrt = .nan := by
  have hm : m ≠ 0 := by rintro rfl; simp at h
  obtain rfl : g = true := sign_of_sgn_mul_neg (by positivity) h
  exact F64.sqrt_fin_of_neg e hm

/-- A finite number that is not negative has its root, a zero itself. -/
theorem F64.isRoundingOf_sqrt_of_nonneg (h0 : m = 0 → e = F64.minExp) (h : 0 ≤ sgn g * ((m : ℝ) * 2 ^ e)) :
    (F64.fin g m e).sqrt.IsRoundingOf (Real.sqrt (sgn g * (m * 2 ^ e))) := by
  rcases eq_or_ne m 0 with rfl | hm
  · rw [F64.sqrt_fin_zero, h0 rfl, Nat.cast_zero, zero_mul, mul_zero, Real.sqrt_zero]
    exact F64.isRoundingOf_zero g
  · have hpos : 0 < sgn g * ((m : ℝ) * 2 ^ e) :=
      lt_of_le_of_ne h (Ne.symm (mt (sgn_mul_eq_zero_iff g m e).mp hm))
    obtain rfl : g = false := sign_of_sgn_mul_pos (by positivity) hpos
    rw [sgn_false, one_mul]
    exact F64.isRoundingOf_sqrt_fin e hm

end

/-- Settles O60: on finite operands by the rule of each operation on significands and exponents; the clauses about
infinities, zero divisors and negative roots by the operations' own cases. -/
theorem arithmeticIsCorrectlyRounded : Obligations.ArithmeticIsCorrectlyRounded := by
  refine ⟨?_, F64.abs_ofBits, ?_⟩
  · intro v w x y hx hy a b
    obtain ⟨m, e, hv, rfl, hzero⟩ := exists_fin_of_denotes hx
    obtain ⟨n, f, hw, rfl, -⟩ := exists_fin_of_denotes hy
    rw [hv, hw]
    refine ⟨⟨F64.isRoundingOf_add_fin a b m n e f, fun h => ?_⟩,
      ⟨F64.isRoundingOf_sub_fin a b m n e f, fun h => ?_⟩,
      ⟨F64.isRoundingOf_mul_fin a b m n e f, ?_⟩, fun hne => ?_,
      fun hnonneg => ⟨F64.isRoundingOf_sqrt_of_nonneg a m e hzero hnonneg, fun h => ?_⟩, F64.gt_fin_iff a b m n e f⟩
    · rw [F64.add_fin_of_sum_zero _ _ _ _ _ _ h, F64.sign_zero]
    · rw [F64.sub_fin_of_difference_zero _ _ _ _ _ _ h, F64.sign_zero]
    · rw [F64.mul_fin, F64.sign_round]
    · have hn : n ≠ 0 := mt (sgn_mul_eq_zero_iff b n f).mpr hne
      exact ⟨F64.isRoundingOf_div_fin a b m e f hn, by rw [F64.div_fin _ _ _ _ _ hn, F64.sign_round]⟩
    · rw [(sgn_mul_eq_zero_iff a m e).mp h, F64.sqrt_fin_zero, F64.sign_fin]
  · intro a b v x hx d g
    obtain ⟨m, e, hv, rfl, -⟩ := exists_fin_of_denotes hx
    simp only [d, hv, F64.ofBits_signed_zero, sgn_mul_eq_zero_iff]
    exact ⟨⟨rfl, rfl, rfl⟩, ⟨rfl, rfl, F64.inf_sub_inf a b⟩,
      ⟨F64.inf_mul_fin a g m e, F64.fin_mul_inf a g m e, rfl⟩,
      ⟨rfl, F64.fin_div_inf a g m e, rfl, F64.fin_div_zero a g m e⟩,
      ⟨rfl, rfl, F64.sqrt_fin_of_denotes_neg g m e⟩, ⟨rfl, rfl, rfl⟩⟩

end Sys2Proof.Machine
end

section
/-! PROOF. What a 32-bit access does at each slot of the register map (spec/10_state.md R22, R24 to R48, R54;
20_memory.md R72, R74). -/

namespace Sys2Proof.Machine

/-! Words and their bytes (20_memory.md R72) -/

/-- Byte `j` of a packed word. -/
theorem byteOf_packWord (f : Nat → Byte) (k : Nat) {j : Nat} (hj : j < 4) :
    byteOf (packWord f k) j = f (4 * k + j) := by
  apply BitVec.eq_of_toNat_eq
  rw [byteOf, BitVec.extractLsb'_toNat, Nat.shiftRight_eq_div_pow]
  simp only [packWord, toNat_append_eq_add]
  have h0 := (f (4 * k)).isLt
  have h1 := (f (4 * k + 1)).isLt
  have h2 := (f (4 * k + 2)).isLt
  have h3 := (f (4 * k + 3)).isLt
  interval_cases j
  · change _ = (f (4 * k)).toNat
    omega
  all_goals omega

/-- A word is its four bytes. -/
theorem eq_of_byteOf {v w : Word} (h : ∀ j < 4, byteOf v j = byteOf w j) : v = w := by
  have hbit (x : Word) (i : Nat) : (byteOf x (i / 8)).getLsbD (i % 8) = x.getLsbD i := by
    rw [byteOf, BitVec.getLsbD_extractLsb', Nat.div_add_mod]
    simp [Nat.mod_lt]
  apply BitVec.eq_of_getLsbD_eq
  intro i hi
  rw [← hbit v, ← hbit w, h (i / 8) (by omega)]

/-- What RX holds after a word is stored. -/
theorem Memory.read_writeWord {m : Memory} (w : m.wf = true) (k : Nat) (v : Word) (i : Nat) :
    (m.writeWord k v).read i = if 4 * k ≤ i ∧ i < 4 * k + 4 then byteOf v (i - 4 * k) else m.read i := by
  rw [Memory.writeWord, Memory.read_writeBytes _ _ w]
  refine ite_congr rfl (fun hin => ?_) fun _ => rfl
  have hj : i - 4 * k < 4 := by omega
  generalize i - 4 * k = j at hj
  interval_cases j <;> rfl

/-! What an offset selects -/

theorem slotAt_txWindow {k : Nat} (hk : k < 5) : slotAt (BitVec.ofNat 12 (0x100 + 4 * k)) = .txWord k := by
  have ho : (BitVec.ofNat 12 (0x100 + 4 * k)).toNat = 0x100 + 4 * k := by
    rw [BitVec.toNat_ofNat, Nat.mod_eq_of_lt (by omega)]
  rw [slotAt, ho, if_pos (by omega), Nat.add_sub_cancel_left, Nat.mul_div_cancel_left k (by decide)]

theorem slotAt_rxWindow {k : Nat} (hk : k < 64) : slotAt (BitVec.ofNat 12 (0x200 + 4 * k)) = .rxWord k := by
  have ho : (BitVec.ofNat 12 (0x200 + 4 * k)).toNat = 0x200 + 4 * k := by
    rw [BitVec.toNat_ofNat, Nat.mod_eq_of_lt (by omega)]
  rw [slotAt, ho, if_neg (by omega), if_pos (by omega), Nat.add_sub_cancel_left,
    Nat.mul_div_cancel_left k (by decide)]

/-- An offset outside both windows that no register has is reserved. -/
theorem slotAt_of_no_register {o : Offset} (htx : ¬(0x100 ≤ o.toNat ∧ o.toNat < 0x114))
    (hrx : ¬(0x200 ≤ o.toNat ∧ o.toNat < 0x300)) (hreg : ∀ r : Reg, r.offset ≠ o) : slotAt o = .reserved := by
  have hnone : (Reg.all.find? fun r => decide (r.offset = o)) = none := by
    simp [hreg]
  rw [slotAt, if_neg htx, if_neg hrx, hnone]

/-- The ranges of 10_state.md section 2 the registers stand in. -/
theorem Reg.offset_range (r : Reg) :
    r.offset.toNat < 0x008 ∨ (0x010 ≤ r.offset.toNat ∧ r.offset.toNat < 0x028) ∨
      (0x040 ≤ r.offset.toNat ∧ r.offset.toNat < 0x07C) ∨ (0x080 ≤ r.offset.toNat ∧ r.offset.toNat < 0x0C4) := by
  cases r <;> decide

/-- The offsets of the read-only registers. -/
theorem readOnly_offsets :
    (Reg.all.filter fun r => decide (r.access = .readOnly)).map Reg.offset =
      [0x004, 0x020, 0x024, 0x05C, 0x060, 0x064, 0x06C, 0x070, 0x074, 0x078, 0x094, 0x098, 0x09C, 0x0A0, 0x0A4,
        0x0A8, 0x0AC, 0x0B0, 0x0B4, 0x0B8, 0x0BC, 0x0C0] := rfl

/-! What a write of each slot does -/

section
variable {o : Offset} {s : State} {v : Word}

theorem serveWrite_cmd (h : slotAt o = .reg .cmd) : serveWrite o v s = runWord v s := by
  rw [serveWrite, h]

theorem serveWrite_reg {r : Reg} (h : slotAt o = .reg r) (hr : r ≠ .cmd) :
    serveWrite o v s = .next (writeReg r v s) := by
  rw [serveWrite, h]
  cases r with
  | cmd => exact absurd rfl hr
  | _ => rfl

theorem serveWrite_rxWord {k : Nat} (h : slotAt o = .rxWord k) :
    serveWrite o v s = .next { s with rx := s.rx.writeWord k v } := by
  rw [serveWrite, h]

theorem serveWrite_txWord {k : Nat} (h : slotAt o = .txWord k) : serveWrite o v s = .next s := by
  rw [serveWrite, h]

theorem serveWrite_reserved (h : slotAt o = .reserved) : serveWrite o v s = .next s := by
  rw [serveWrite, h]

theorem runWord_of_decode {i : Instr} (h : decode v = .ok i) : runWord v s = exec i s := by
  rw [runWord, h]

/-- A read-only register ignores writes (10_state.md R54). -/
theorem writeReg_of_readOnly {r : Reg} (h : r.access = .readOnly) : writeReg r v s = s := by
  cases r <;> cases h <;> rfl

end

/-- RX_LEN stores min(v, 256) (10_state.md R40). -/
theorem toNat_clampRxLen (v : Word) : (clampRxLen v).toNat = min v.toNat 256 := by
  rw [clampRxLen, BitVec.toNat_ofNat, Config.rxMax]
  omega

/-- SMP_N stores a value from 2 to 255 (10_state.md R46). -/
theorem toNat_clampSmpN (v : Word) :
    (clampSmpN v).toNat = if v.toNat < 2 then 2 else if v.toNat > 255 then 255 else v.toNat := by
  rw [clampSmpN, BitVec.toNat_ofNat, Config.nMax]
  split
  · omega
  · split <;> omega

/-! One step that serves a write -/

section
variable (s : State) (rest : List BusEvent) (v : Word)

/-- A step serves the aligned 32-bit write that is next (20_memory.md R71, R74). -/
theorem step_facing_write {o : Offset} (ho : o.toNat % 4 = 0) :
    step (s.facing (.write o .w32 v) rest) = serveWrite o v (s.served .written rest) := by
  rw [step_of_pending (s := s.facing _ rest) rfl, serve]
  exact (if_neg Bool.false_ne_true).trans (if_pos ((accessOk_iff _ _).mpr ⟨rfl, ho⟩))

theorem Reg.offset_aligned (r : Reg) : r.offset.toNat % 4 = 0 := by cases r <;> rfl

/-- A step that writes a register other than CMD stores the value in it. -/
theorem step_facing_write_reg (r : Reg) (hr : r ≠ .cmd) :
    step (s.facing (.write r.offset .w32 v) rest) = .next (writeReg r v (s.served .written rest)) := by
  rw [step_facing_write s rest v r.offset_aligned, serveWrite_reg (slotAt_offset r) hr]

end

/-! The obligations -/

/-- Settles O6: offset 0x000 is CMD's, and a write of CMD runs what its word decodes to. -/
theorem stepRunsTheDecodedCommand : Obligations.StepRunsTheDecodedCommand := by
  intro s rest w i hdecode
  have hslot : slotAt 0x000 = .reg .cmd := slotAt_offset .cmd
  rw [step_facing_write s rest w rfl, serveWrite_cmd hslot, runWord_of_decode hdecode]

/-- Settles O10: each clause is the write of the register at that offset. -/
theorem registerWritesStoreTheirField : Obligations.RegisterWritesStoreTheirField := by
  intro s rest v run t
  have hrun (r : Reg) (hr : r ≠ .cmd) : run r.offset = .next (writeReg r v t) := step_facing_write_reg s rest v r hr
  exact ⟨hrun .crcCfg (by decide), hrun .crcPoly (by decide), hrun .crcInit (by decide), hrun .crcXorout (by decide),
    hrun .frSlave (by decide), hrun .frFunc (by decide), hrun .frStart (by decide), hrun .frCount (by decide),
    hrun .frBpr (by decide), hrun .frValue (by decide), hrun .frXfunc (by decide), hrun .smpMaxdevLo (by decide),
    hrun .smpMaxdevHi (by decide), hrun .smpPrim (by decide), hrun .smpTan (by decide)⟩

/-- Settles O11: the write of either register, and the number its clamp stores. -/
theorem rxLenAndSmpNStoreLegalValues : Obligations.RxLenAndSmpNStoreLegalValues := fun s rest v =>
  ⟨⟨_, step_facing_write_reg s rest v .rxLen (by decide), rfl, toNat_clampRxLen v⟩,
    ⟨_, step_facing_write_reg s rest v .smpN (by decide), rfl, toNat_clampSmpN v⟩⟩

/-- Settles O12: the offset is that of a read-only register, or selects a word of the TX window. -/
theorem readOnlyWritesAreIgnored : Obligations.ReadOnlyWritesAreIgnored := by
  rintro s rest v o (hreg | ⟨hlo, hhi, halign⟩)
  · rw [← readOnly_offsets, List.mem_map] at hreg
    obtain ⟨r, hmem, rfl⟩ := hreg
    have hro : r.access = .readOnly := of_decide_eq_true (List.mem_filter.mp hmem).2
    have hcmd : r ≠ .cmd := by rintro rfl; cases hro
    rw [step_facing_write_reg s rest v r hcmd, writeReg_of_readOnly hro]
  · have hslot : slotAt o = .txWord ((o.toNat - 0x100) / 4) := if_pos ⟨hlo, hhi⟩
    rw [step_facing_write s rest v halign, serveWrite_txWord hslot]

/-- Settles O13: no register and no window stands at the offset. -/
theorem reservedOffsetsReadZeroAndIgnoreWrites : Obligations.ReservedOffsetsReadZeroAndIgnoreWrites := by
  intro s rest v o halign hrange
  have hslot : slotAt o = .reserved := by
    refine slotAt_of_no_register (by omega) (by omega) fun r hr => ?_
    have := r.offset_range
    rw [hr] at this
    omega
  exact ⟨by rw [readAt, hslot], by rw [step_facing_write s rest v halign, serveWrite_reserved hslot]⟩

/-- Settles O14: the word is stored byte by byte, and read back from the same bytes. -/
theorem rxWindowStoresFourBytes : Obligations.RxWindowStoresFourBytes := by
  intro s rest v k hwf hk
  have hslot := slotAt_rxWindow hk
  have halign : (BitVec.ofNat 12 (0x200 + 4 * k)).toNat % 4 = 0 := by
    rw [BitVec.toNat_ofNat]
    omega
  refine ⟨_, (step_facing_write s rest v halign).trans (serveWrite_rxWord hslot), rfl, Memory.wf_writeWord hwf k v,
    fun i => ?_, ?_⟩
  · rw [BitVec.setWidth_ushiftRight_eq_extractLsb]
    exact Memory.read_writeWord hwf k v i
  · rw [readAt, hslot]
    refine eq_of_byteOf fun j hj => ?_
    rw [byteOf_packWord _ _ hj]
    refine (Memory.read_writeWord hwf k v _).trans ?_
    rw [if_pos (by omega), Nat.add_sub_cancel_left]

/-- Settles O15: a window word packs the four bytes of its buffer. -/
theorem windowWordsPackBytesLittleEndian : Obligations.WindowWordsPackBytesLittleEndian := by
  intro s k j hj
  simp only [BitVec.setWidth_ushiftRight_eq_extractLsb]
  refine ⟨fun hk => ?_, fun hk => ?_⟩
  · rw [readAt, slotAt_txWindow hk]
    exact byteOf_packWord (txWindowByte s) k hj
  · rw [readAt, slotAt_rxWindow hk]
    exact byteOf_packWord s.rx.read k hj

end Sys2Proof.Machine
end

section
/-! PROOF. Every step keeps the machine's invariant (spec/10_state.md R39 to R51, 42_framer.md R130, 44_sampler.md R181,
60_exceptions.md R202): one lemma for each operation that writes a field the invariant speaks of. -/

namespace Sys2Proof.Machine

variable {s t : State}

/-! The frames the builders emit -/

theorem length_stuff_ge (p : List Byte) : p.length ≤ (stuff p).length := by
  induction p with
  | nil => exact le_rfl
  | cons b p ih => rw [stuff]; split <;> simp only [List.length_cons] <;> omega

theorem length_stuff_le (p : List Byte) : (stuff p).length ≤ 2 * p.length := by
  induction p with
  | nil => exact le_rfl
  | cons b p ih => rw [stuff]; split <;> simp only [List.length_cons] <;> omega

/-- An encapsulated frame of seven payload bytes has 11 to 18 bytes (30_encoding.md R100). -/
theorem length_mmkFrame_mmkPayload (s : State) :
    11 ≤ (mmkFrame (mmkPayload s)).length ∧ (mmkFrame (mmkPayload s)).length ≤ 18 := by
  have hlen : (mmkPayload s).length = 7 := rfl
  have hge := length_stuff_ge (mmkPayload s)
  have hle := length_stuff_le (mmkPayload s)
  simp only [mmkFrame, List.length_append, List.length_cons, List.length_nil]
  omega

@[simp] theorem length_txImage (f : List Byte) : (txImage f).length = Config.txMax := by simp [txImage]

/-- Past its frame the image of TX is zero (42_framer.md R130). -/
theorem getD_txImage_of_length_le {f : List Byte} {i : Nat} (h : f.length ≤ i) : (txImage f).getD i 0 = 0 := by
  by_cases hi : i < Config.txMax
  · simp [txImage, hi, h]
  · simp [txImage, hi]

/-! The operations that write such a field -/

namespace State.Inv

/-- Ending with a result code: the sticky flag covers an error (60_exceptions.md R202). -/
theorem finish (h : s.Inv) (c : ResultCode) : (s.finish c).Inv :=
  { h with err_sticky := fun hc => stickyErr_of_isError hc s.err }

/-- Replacing TX and TX_LEN, by a buffer of TX's form that is zero past a length TX_LEN can have (10_state.md R39,
R44; 42_framer.md R130). -/
theorem setTx (h : s.Inv) {m : Memory} {n : BitVec 5} (hwf : m.wf = true) (hbelow : m.below Config.txMax = true)
    (hlen : n.toNat = 8 ∨ (11 ≤ n.toNat ∧ n.toNat ≤ Config.txMax)) (htail : ∀ i, n.toNat ≤ i → m.read i = 0x00) :
    State.Inv { s with tx := m, txLen := n } :=
  { h with tx_wf := hwf, tx_below := hbelow, tx_len := .inr hlen, tx_tail := htail }

/-- Emitting a frame of a length TX_LEN can have (42_framer.md R130). -/
theorem emit (h : s.Inv) {f : List Byte} (hf : f.length = 8 ∨ (11 ≤ f.length ∧ f.length ≤ Config.txMax)) :
    (s.emit f).Inv := by
  have hlen : (BitVec.ofNat 5 f.length).toNat = f.length := by
    rw [Config.txMax] at hf
    rw [BitVec.toNat_ofNat, Nat.mod_eq_of_lt (by omega)]
  unfold State.emit
  refine h.setTx (Memory.wf_writeBytes _ _ h.tx_wf) (Memory.below_writeBytes _ _ h.tx_below (by simp))
    (by rwa [hlen]) fun i hi => ?_
  rw [hlen] at hi
  rw [Memory.read_writeBytes _ _ h.tx_wf]
  split
  · exact getD_txImage_of_length_le hi
  · rename_i hout
    exact Memory.read_of_below h.tx_below (by simpa using hout)

/-- Storing a word of the RX window (10_state.md R45). -/
theorem writeRxWord (h : s.Inv) {k : Nat} (hk : k < 64) (v : Word) :
    State.Inv { s with rx := s.rx.writeWord k v } :=
  { h with
    rx_wf := Memory.wf_writeWord h.rx_wf k v
    rx_below := Memory.below_writeBytes _ _ h.rx_below
      (by simp only [List.length_cons, List.length_nil, Config.rxMax]; omega) }

/-- Storing a register: RX_LEN and SMP_N take legal values only, and SMP_N empties the batch (10_state.md R40, R46). -/
theorem writeReg (h : s.Inv) (r : Reg) (v : Word) : (writeReg r v s).Inv := by
  cases r with
  | rxLen =>
    refine { h with rx_len := ?_ }
    show (clampRxLen v).toNat ≤ 256
    rw [toNat_clampRxLen]
    exact Nat.min_le_right _ _
  | smpN =>
    have hn : 2 ≤ (clampSmpN v).toNat := by
      rw [toNat_clampSmpN]
      split_ifs <;> omega
    exact { h with
      smp_n := hn
      cursor_lt := Nat.lt_of_lt_of_le Nat.zero_lt_two hn
      no_kind := fun hk => ⟨(h.no_kind hk).1, rfl⟩ }
  | _ => exact { h with }

/-- A passed validation has a payload that fits a frame of 256 bytes (10_state.md R41). -/
theorem expData_le_of_validateCode (h : s.Inv) (hok : validateCode s = .ok) : expData s ≤ 251 := by
  have hcases := validateCode_cases s
  simp only [hok, reduceCtorEq, and_false, false_and, false_or, and_true] at hcases
  obtain ⟨-, -, -, -, hlen, -⟩ := hcases
  have hmax : rxCount s ≤ 256 := h.rx_len
  rw [hlen, expTotal] at hmax
  omega

/-- The slot of the next sample is one of the batch (10_state.md R49, 44_sampler.md R175). -/
theorem sampleSlot_lt (h : s.Inv) (k : ChannelKind) : sampleSlot s k < s.smpN.toNat := by
  unfold sampleSlot
  split
  · exact Nat.lt_of_lt_of_le Nat.zero_lt_two h.smp_n
  · exact h.cursor_lt

/-- Storing a sample and moving the cursor inside the batch. -/
theorem storeSample (h : s.Inv) (k : ChannelKind) (c : Nat) {n : Byte} (hn : n.toNat < s.smpN.toNat) :
    State.Inv { s.storeSample k c with cursor := n } :=
  { h with cursor_lt := hn, no_kind := fun hk => Bool.noConfusion hk }

/-- An accepted fill makes the estimate valid, with the capacity as its count (44_sampler.md R178). -/
theorem acceptFill (h : s.Inv) (k : ChannelKind) (m : F64) : (s.acceptFill s.smpN.toNat k m).Inv := by
  refine { h with no_estimate := fun he => Bool.noConfusion he, est_count := fun _ => ?_ }
  show 2 ≤ (BitVec.ofNat 8 s.smpN.toNat).toNat
  rw [BitVec.ofNat_toNat, BitVec.setWidth_eq]
  exact h.smp_n

theorem fill (h : s.Inv) (k : ChannelKind) : (s.fill s.smpN.toNat k).Inv := by
  obtain ⟨-, heq⟩ | ⟨-, heq⟩ := s.fill_cases s.smpN.toNat k
  · rw [heq]
    apply State.Inv.finish; exact { h with }
  · rw [heq]
    exact (h.acceptFill k _).finish _

end State.Inv

/-- The state after reset has the invariant (70_reset_and_hazards.md R221). -/
theorem inv_reset : State.reset.Inv where
  tx_wf := rfl
  tx_below := rfl
  tx_len := .inl rfl
  tx_tail _ _ := rfl
  rx_wf := rfl
  rx_below := rfl
  rx_len := by decide
  val_len := by decide
  dec1_reserved := by decide
  smp_n := by decide
  cursor_lt := by decide
  no_kind _ := ⟨rfl, rfl⟩
  no_estimate _ := ⟨rfl, rfl, rfl, rfl, rfl, rfl, rfl⟩
  est_count h := Bool.noConfusion h
  err_sticky h := absurd h (by decide)

/-- A reset of the engine gives the invariant from any state. -/
theorem inv_resetEngine (s : State) : s.resetEngine.Inv := { inv_reset with }

/-! The commands -/

/-- MMK_DEC1 has a zero byte at bits [15:8] (10_state.md R43). -/
theorem byteOf_one_mmkDec1 (x y z : Byte) : byteOf (x ++ (y ++ ((0 : Byte) ++ z))) 1 = 0 :=
  byteOf_packWord (fun i => [z, 0, y, x].getD i 0) 0 (by decide : 1 < 4)

/-- Every command keeps the invariant. -/
theorem inv_exec {i : Instr} (h : s.Inv) (hexec : exec i s = .next t) : t.Inv := by
  cases i with
  | nop a => cases hexec; exact h.finish _
  | crcStart a => cases hexec; apply State.Inv.finish; exact { h with }
  | crcFeed a => cases hexec; apply State.Inv.finish; exact { h with }
  | crcLoadProfile a =>
    obtain ⟨-, rfl⟩ | ⟨-, rfl⟩ | ⟨-, rfl⟩ := execCrcLoadProfile_cases hexec
    · apply State.Inv.finish; exact { h with }
    · apply State.Inv.finish; exact { h with }
    · exact h.finish _
  | crcComputeRx a => cases hexec; apply State.Inv.finish; exact { h with }
  | buildRtuRead a => cases hexec; exact (h.emit (.inl rfl)).finish _
  | buildRtuWrite a => cases hexec; exact (h.emit (.inl rfl)).finish _
  | buildMmk a => cases hexec; exact (h.emit (.inr (length_mmkFrame_mmkPayload s))).finish _
  | validateRtu a =>
    cases hexec
    apply State.Inv.finish
    refine { h with val_len := ?_ }
    dsimp only
    split
    · rename_i hok
      rw [BitVec.toNat_ofNat]
      exact (Nat.mod_le _ _).trans (h.expData_le_of_validateCode hok)
    · decide
  | extractF32 a =>
    obtain ⟨-, rfl⟩ | ⟨-, rfl⟩ := execExtractF32_cases hexec
    · exact h.finish _
    · apply State.Inv.finish; exact { h with }
  | extractU16 a =>
    obtain ⟨-, rfl⟩ | ⟨-, rfl⟩ := execExtractU16_cases hexec
    · exact h.finish _
    · apply State.Inv.finish; exact { h with }
  | mmkDecode a =>
    obtain ⟨c, -, rfl⟩ | ⟨out, -, ht, -, hdec1⟩ := execMmkDecode_cases (arg := a) hexec
    · exact h.finish _
    · rw [ht]
      apply State.Inv.finish
      exact { h with dec1_reserved := by rw [hdec1]; exact byteOf_one_mmkDec1 _ _ _ }
  | smpAdd a =>
    obtain ⟨-, rfl⟩ | ⟨-, hlt, rfl⟩ | ⟨-, -, rfl⟩ := execSmpAdd_cases hexec
    · exact h.finish _
    · refine (h.storeSample _ _ ?_).finish _
      rw [BitVec.toNat_ofNat]
      exact (Nat.mod_le _ _).trans_lt hlt
    · exact (h.storeSample _ _ (Nat.lt_of_lt_of_le Nat.zero_lt_two h.smp_n)).fill _
  | smpClear a =>
    cases hexec
    apply State.Inv.finish
    exact { h with cursor_lt := Nat.lt_of_lt_of_le Nat.zero_lt_two h.smp_n, no_kind := fun _ => ⟨rfl, rfl⟩ }
  | clearStatus a =>
    cases hexec
    exact { h with err_sticky := fun hc => absurd hc (show ¬isError .ok = true by decide) }
  | softReset a => cases hexec; exact (inv_resetEngine s).finish _

/-! The bus -/

/-- The words of the RX window are the 64 of its 256 bytes (10_state.md R45). -/
theorem lt_of_slotAt_rxWord {o : Offset} {k : Nat} (h : slotAt o = .rxWord k) : k < 64 := by
  unfold slotAt at h
  split at h
  · cases h
  · split at h
    · cases h
      omega
    · split at h <;> cases h

theorem inv_serveWrite {o : Offset} {v : Word} (h : s.Inv) (hserve : serveWrite o v s = .next t) : t.Inv := by
  obtain ⟨-, hrun⟩ | ⟨r, -, -, rfl⟩ | ⟨k, hk, rfl⟩ | ⟨-, rfl⟩ := serveWrite_cases hserve
  · obtain ⟨i, -, hexec⟩ | ⟨e, -, rfl⟩ := runWord_cases hrun
    · exact inv_exec h hexec
    · exact h.finish _
  · exact h.writeReg r v
  · exact h.writeRxWord (lt_of_slotAt_rxWord hk) v
  · exact h

theorem inv_moveReset (b : Bool) (h : s.Inv) : (moveReset b s).Inv := by
  unfold moveReset
  split
  · exact { inv_resetEngine s with }
  · exact { h with }

/-- Settles O28: by what serving an event can do, each operation keeping the invariant by its own lemma. -/
theorem everyStepKeepsTheInvariant : Obligations.EveryStepKeepsTheInvariant := by
  intro s t h hstep
  obtain ⟨-, rfl⟩ | ⟨e, rest, -, hserve⟩ := step_cases hstep
  · exact h
  · have hrest : State.Inv { s with pending := rest } := { h with }
    obtain ⟨b, -, rfl⟩ | ⟨o, -, -, -, rfl⟩ | ⟨o, v, -, -, -, hwrite⟩ := serve_cases hserve
    · exact inv_moveReset b hrest
    · exact { hrest with }
    · refine inv_serveWrite ?_ hwrite
      exact { hrest with }

end Sys2Proof.Machine
end

section
/-! PROOF. Sample slots at or above the cursor are never observed (spec/10_state.md R52, R53; 70_reset_and_hazards.md
R222). A state that agrees with `s` is `s` with other stores, equal to those of `s` below the cursor; an operation that
leaves the stores alone and does not raise the cursor keeps that, and SMP_ADD fills the slot it moves the
cursor past. -/

namespace Sys2Proof.Machine

/-! Stores that agree below a slot -/

/-- Two stores with the same first `n` slots. -/
def Store.AgreeBelow (n : Nat) (b c : Store) : Prop := ∀ i, i < n → b.slot i = c.slot i

namespace Store.AgreeBelow

variable {m n : Nat} {b c : Store}

theorem mono (h : AgreeBelow n b c) (hmn : m ≤ n) : AgreeBelow m b c := fun i hi => h i (hi.trans_le hmn)

/-- The same sample in the next slot. -/
theorem put (h : AgreeBelow n b c) (x : DWord) : AgreeBelow (n + 1) (b.put n x) (c.put n x) := by
  intro i hi
  rw [slot_put, slot_put]
  split
  · rfl
  · rename_i hne
    by_cases hin : i < n
    · exact h i hin
    · have hout : Config.nMax ≤ i := by omega
      simp [slot, Nat.not_lt.mpr hout]

/-- A batch is a function of the slots below its size (44_sampler.md R176). -/
theorem batch_eq (h : AgreeBelow n b c) (hmn : m ≤ n) : batch b m = batch c m :=
  List.map_congr_left fun i hi => by rw [h.mono hmn i (List.mem_range.mp hi)]

end Store.AgreeBelow

/-! States that agree -/

/-- `s` with other contents in its sample stores. -/
def State.withStores (s : State) (p q : Store) : State := { s with bufP := p, bufT := q }

section
variable {s t : State} {p q : Store}

theorem State.agree_withStores_iff : s.Agree (s.withStores p q) ↔
    s.bufP.AgreeBelow s.cursor.toNat p ∧ s.bufT.AgreeBelow s.cursor.toNat q :=
  ⟨fun h => ⟨fun i hi => (h.2 i hi).1, fun i hi => (h.2 i hi).2⟩, fun h => ⟨rfl, fun i hi => ⟨h.1 i hi, h.2 i hi⟩⟩⟩

/-- A state that agrees with `s` is `s` with other stores. -/
theorem State.Agree.exists_withStores (h : s.Agree t) : ∃ p q, t = s.withStores p q := ⟨_, _, h.1⟩

theorem State.Agree.refl (s : State) : s.Agree s := ⟨rfl, fun _ _ => ⟨rfl, rfl⟩⟩

/-- A state with the stores of `s` and a cursor no higher than its cursor. -/
theorem State.Agree.of_same_stores {s' : State} (h : s.Agree (s.withStores p q)) (hp : s'.bufP = s.bufP)
    (hq : s'.bufT = s.bufT) (hc : s'.cursor.toNat ≤ s.cursor.toNat) : s'.Agree (s'.withStores p q) := by
  rw [agree_withStores_iff] at h ⊢
  rw [hp, hq]
  exact ⟨h.1.mono hc, h.2.mono hc⟩

theorem State.agree_withStores_of_cursor_eq_zero (h : s.cursor = 0) : s.Agree (s.withStores p q) :=
  agree_withStores_iff.mpr ⟨fun i hi => by simp [h] at hi, fun i hi => by simp [h] at hi⟩

/-- The same next state, but for the stores, which it leaves alone. -/
theorem State.Agree.outcomes_of_same_stores {x y : Host.Outcome State Fault Refusal} {s' : State}
    (h : s.Agree (s.withStores p q)) (hx : x = .next s') (hy : y = .next (s'.withStores p q)) (hp : s'.bufP = s.bufP)
    (hq : s'.bufT = s.bufT) (hc : s'.cursor.toNat ≤ s.cursor.toNat) : outcomesAgree x y := by
  rw [hx, hy]
  exact h.of_same_stores hp hq hc

/-- A branch on which both sides agree. -/
theorem outcomesAgree_ite {P : Prop} [Decidable P] {x x' y y' : Host.Outcome State Fault Refusal}
    (hx : P → outcomesAgree x x') (hy : ¬P → outcomesAgree y y') :
    outcomesAgree (if P then x else y) (if P then x' else y') := by
  split
  · exact hx ‹_›
  · exact hy ‹_›

/-! The sampler's operations -/

/-- The next sample goes to a slot no higher than the cursor. -/
theorem sampleSlot_le_cursor (s : State) (k : ChannelKind) : sampleSlot s k ≤ s.cursor.toNat := by
  unfold sampleSlot
  split
  · exact Nat.zero_le _
  · exact le_rfl

/-- A fill looks at the slots below the capacity only, and leaves the stores and the cursor alone. -/
theorem fill_withStores {n : Nat} (k : ChannelKind) (hp : s.bufP.AgreeBelow n p) (hq : s.bufT.AgreeBelow n q) :
    (s.withStores p q).fill n k = (s.fill n k).withStores p q := by
  have hbp : batch (s.withStores p q).bufP n = batch s.bufP n := (hp.batch_eq le_rfl).symm
  have hbt : batch (s.withStores p q).bufT n = batch s.bufT n := (hq.batch_eq le_rfl).symm
  have haccept (m : F64) : (s.withStores p q).acceptFill n k m = (s.acceptFill n k m).withStores p q := by
    simp only [State.acceptFill, hbp, hbt]
    rfl
  have hmaxdev : maxdevBits (s.withStores p q) = maxdevBits s := rfl
  simp only [State.fill, hbp, haccept, hmaxdev]
  split <;> rfl

@[simp] theorem State.fill_cursor (s : State) (n : Nat) (k : ChannelKind) : (s.fill n k).cursor = s.cursor := by
  obtain ⟨-, h⟩ | ⟨-, h⟩ := s.fill_cases n k <;> rw [h] <;> simp

/-- SMP_ADD fills the slot the cursor moves past; a completed batch leaves no slot below the cursor. -/
theorem outcomesAgree_execSmpAdd (arg : Byte) (h : s.Agree (s.withStores p q)) :
    outcomesAgree (execSmpAdd arg s) (execSmpAdd arg (s.withStores p q)) := by
  obtain ⟨hp, hq⟩ := State.agree_withStores_iff.mp h
  have hc := sampleSlot_le_cursor s (argKind arg)
  have hp' := (hp.mono hc).put (widen (Config.freeNaNBits s.draws) s.smpPrim)
  have hq' := (hq.mono hc).put (widen (Config.freeNaNBits (s.draws + 1)) s.smpTan)
  refine outcomesAgree_ite (fun _ => h.outcomes_of_same_stores rfl rfl rfl rfl le_rfl) fun _ =>
    outcomesAgree_ite (fun _ => ?_) fun hfull => ?_
  · have hcursor : (BitVec.ofNat 8 (sampleSlot s (argKind arg) + 1)).toNat ≤ sampleSlot s (argKind arg) + 1 :=
      (BitVec.toNat_ofNat _ _).trans_le (Nat.mod_le _ _)
    exact State.agree_withStores_iff (s := State.finish
      { s.storeSample (argKind arg) (sampleSlot s (argKind arg)) with
        cursor := BitVec.ofNat 8 (sampleSlot s (argKind arg) + 1) } .ok).mpr ⟨hp'.mono hcursor, hq'.mono hcursor⟩
  · have hn : s.smpN.toNat ≤ sampleSlot s (argKind arg) + 1 := Nat.not_lt.mp hfull
    have hfill := fill_withStores
      (s := { s.storeSample (argKind arg) (sampleSlot s (argKind arg)) with cursor := 0 })
      (argKind arg) (hp'.mono hn) (hq'.mono hn)
    exact hfill ▸ State.agree_withStores_of_cursor_eq_zero (State.fill_cursor _ _ _)

/-! The commands -/

theorem finish_withStores (s : State) (c : ResultCode) (p q : Store) :
    (s.withStores p q).finish c = (s.finish c).withStores p q := rfl

theorem emit_withStores (s : State) (f : List Byte) (p q : Store) :
    (s.withStores p q).emit f = (s.emit f).withStores p q := by
  simp only [State.emit, State.withStores]

/-- A builder emits the same frame and leaves the stores alone. -/
theorem outcomesAgree_emit (f : List Byte) (h : s.Agree (s.withStores p q)) :
    outcomesAgree (.next ((s.emit f).finish .ok)) (.next (((s.withStores p q).emit f).finish .ok)) :=
  h.outcomes_of_same_stores rfl (by rw [emit_withStores, finish_withStores]) (by simp) (by simp) (by simp)

/-- No command tells agreeing states apart. -/
theorem outcomesAgree_exec (i : Instr) (h : s.Agree (s.withStores p q)) :
    outcomesAgree (exec i s) (exec i (s.withStores p q)) := by
  cases i with
  | nop a | crcStart a | crcFeed a | crcComputeRx a | validateRtu a | clearStatus a =>
    exact h.outcomes_of_same_stores rfl rfl rfl rfl le_rfl
  | buildRtuRead a => exact outcomesAgree_emit (withRtuCrc (readRequest s)) h
  | buildRtuWrite a => exact outcomesAgree_emit (withRtuCrc (writeRequest s)) h
  | buildMmk a => exact outcomesAgree_emit (mmkFrame (mmkPayload s)) h
  | crcLoadProfile a =>
    exact outcomesAgree_ite (fun _ => h.outcomes_of_same_stores rfl rfl rfl rfl le_rfl) fun _ =>
      outcomesAgree_ite (fun _ => h.outcomes_of_same_stores rfl rfl rfl rfl le_rfl) fun _ =>
      h.outcomes_of_same_stores rfl rfl rfl rfl le_rfl
  | extractF32 a | extractU16 a =>
    exact outcomesAgree_ite (fun _ => h.outcomes_of_same_stores rfl rfl rfl rfl le_rfl) fun _ =>
      h.outcomes_of_same_stores rfl rfl rfl rfl le_rfl
  | mmkDecode a =>
    have hframe : rxFrame (s.withStores p q) = rxFrame s := rfl
    simp only [exec, execMmkDecode, hframe]
    cases mmkParse (rxFrame s) <;> exact h.outcomes_of_same_stores rfl rfl rfl rfl le_rfl
  | smpAdd a => exact outcomesAgree_execSmpAdd a h
  | smpClear a => exact h.outcomes_of_same_stores rfl rfl rfl rfl (Nat.zero_le _)
  | softReset a => exact State.Agree.refl _

/-! The bus -/

/-- A read sees no sample slot (10_state.md R53). -/
theorem readAt_withStores (o : Offset) (s : State) (p q : Store) : readAt o (s.withStores p q) = readAt o s := by
  unfold readAt
  cases slotAt o with
  | reg r => cases r <;> rfl
  | _ => rfl

theorem writeReg_withStores (r : Reg) (v : Word) (s : State) (p q : Store) :
    writeReg r v (s.withStores p q) = (writeReg r v s).withStores p q := by cases r <;> rfl

/-- Storing a register leaves the stores alone, and the cursor too or empties the batch. -/
theorem writeReg_keeps_stores (r : Reg) (v : Word) (s : State) :
    (writeReg r v s).bufP = s.bufP ∧ (writeReg r v s).bufT = s.bufT ∧
      (writeReg r v s).cursor.toNat ≤ s.cursor.toNat := by
  cases r with
  | smpN => exact ⟨rfl, rfl, Nat.zero_le _⟩
  | _ => exact ⟨rfl, rfl, le_rfl⟩

theorem outcomesAgree_runWord (w : Word) (h : s.Agree (s.withStores p q)) :
    outcomesAgree (runWord w s) (runWord w (s.withStores p q)) := by
  unfold runWord
  cases decode w with
  | ok i => exact outcomesAgree_exec i h
  | error e => exact h.outcomes_of_same_stores rfl rfl rfl rfl le_rfl

theorem outcomesAgree_serveWrite (o : Offset) (v : Word) (h : s.Agree (s.withStores p q)) :
    outcomesAgree (serveWrite o v s) (serveWrite o v (s.withStores p q)) := by
  rcases hslot : slotAt o with r | k | k | _
  · by_cases hr : r = .cmd
    · subst hr
      rw [serveWrite_cmd hslot, serveWrite_cmd hslot]
      exact outcomesAgree_runWord v h
    · obtain ⟨hp, hq, hc⟩ := writeReg_keeps_stores r v s
      rw [serveWrite_reg hslot hr, serveWrite_reg hslot hr, writeReg_withStores]
      exact h.outcomes_of_same_stores rfl rfl hp hq hc
  · rw [serveWrite_txWord hslot, serveWrite_txWord hslot]
    exact h
  · rw [serveWrite_rxWord hslot, serveWrite_rxWord hslot]
    exact h.outcomes_of_same_stores rfl rfl rfl rfl le_rfl
  · rw [serveWrite_reserved hslot, serveWrite_reserved hslot]
    exact h

/-- The end of a reset (70_reset_and_hazards.md R220). -/
theorem moveReset_of_deasserted {b : Bool} (h : s.resetAsserted = true ∧ b = false) :
    moveReset b s = { s.resetEngine with resetAsserted := false } := if_pos h

theorem moveReset_of_not_deasserted {b : Bool} (h : ¬(s.resetAsserted = true ∧ b = false)) :
    moveReset b s = { s with resetAsserted := b } := if_neg h

theorem outcomesAgree_serve (e : BusEvent) (h : s.Agree (s.withStores p q)) :
    outcomesAgree (serve e s) (serve e (s.withStores p q)) := by
  cases e with
  | resetLine b =>
    by_cases hb : s.resetAsserted = true ∧ b = false
    · rw [serve, serve, moveReset_of_deasserted hb, moveReset_of_deasserted (s := s.withStores p q) hb]
      exact State.Agree.refl _
    · rw [serve, serve, moveReset_of_not_deasserted hb, moveReset_of_not_deasserted (s := s.withStores p q) hb]
      exact h.outcomes_of_same_stores rfl rfl rfl rfl le_rfl
  | read o width =>
    refine outcomesAgree_ite (fun _ => rfl) fun _ => outcomesAgree_ite (fun _ => ?_) fun _ => rfl
    rw [readAt_withStores]
    exact h.outcomes_of_same_stores rfl rfl rfl rfl le_rfl
  | write o width v =>
    refine outcomesAgree_ite (fun _ => rfl) fun _ => outcomesAgree_ite (fun _ => ?_) fun _ => rfl
    exact outcomesAgree_serveWrite o v (s := { s with answer := .written }) (h.of_same_stores rfl rfl le_rfl)

/-- With no event pending a step keeps the state (60_exceptions.md R212). -/
theorem step_of_pending_nil (h : s.pending = []) : step s = .next s := by rw [step, serveNext, h]

/-- A step of agreeing states. -/
theorem outcomesAgree_step (h : s.Agree t) : outcomesAgree (step s) (step t) := by
  obtain ⟨p, q, rfl⟩ := h.exists_withStores
  cases hpending : s.pending with
  | nil =>
    rw [step_of_pending_nil hpending, step_of_pending_nil (s := s.withStores p q) hpending]
    exact h
  | cons e rest =>
    rw [step_of_pending hpending, step_of_pending (s := s.withStores p q) hpending]
    exact outcomesAgree_serve e (s := { s with pending := rest }) (h.of_same_stores rfl rfl le_rfl)

/-! Runs -/

section
variable {M : Host.Core} {u u' : M.State} {k : Nat}

theorem run_succ_of_next (h : M.step u = .next u') : M.run (k + 1) u = M.run k u' := by
  rw [Host.Core.run, h]

theorem run_succ_of_fault {f : M.Fault} (h : M.step u = .fault f) : M.run (k + 1) u = .fault f := by
  rw [Host.Core.run, h]

theorem run_succ_of_refused {r : M.Refusal} (h : M.step u = .refused r) : M.run (k + 1) u = .refused r := by
  rw [Host.Core.run, h]

end

/-- Everything two agreeing outcomes can be. -/
theorem outcomesAgree_cases {x y : Host.Outcome State Fault Refusal} (h : outcomesAgree x y) :
    (∃ s t, x = .next s ∧ y = .next t ∧ s.Agree t) ∨ (∃ f, x = .fault f ∧ y = .fault f) ∨
      (∃ r, x = .refused r ∧ y = .refused r) := by
  cases x <;> cases y
  case next.next => exact .inl ⟨_, _, rfl, rfl, h⟩
  case fault.fault f g =>
    obtain rfl : f = g := h
    exact .inr (.inl ⟨f, rfl, rfl⟩)
  case refused.refused r r' =>
    obtain rfl : r = r' := h
    exact .inr (.inr ⟨r, rfl, rfl⟩)
  all_goals exact h.elim

/-- A run of agreeing states: by induction on its length, from one step. -/
theorem outcomesAgree_run (k : Nat) (h : s.Agree t) :
    outcomesAgree (Host.Core.run Sys2Proof.core k s) (Host.Core.run Sys2Proof.core k t) := by
  induction k generalizing s t with
  | zero => exact h
  | succ k ih =>
    obtain ⟨s', t', hs, ht, h'⟩ | ⟨f, hs, ht⟩ | ⟨r, hs, ht⟩ := outcomesAgree_cases (outcomesAgree_step h)
    · rw [run_succ_of_next (M := Sys2Proof.core) hs, run_succ_of_next (M := Sys2Proof.core) ht]
      exact ih h'
    · rw [run_succ_of_fault (M := Sys2Proof.core) hs, run_succ_of_fault (M := Sys2Proof.core) ht]
      exact rfl
    · rw [run_succ_of_refused (M := Sys2Proof.core) hs, run_succ_of_refused (M := Sys2Proof.core) ht]
      exact rfl

end

/-- Settles O30: each step by what it does to stores that agree below the cursor, a run by induction, and the reset
state because its cursor is 0. -/
theorem staleSampleSlotsAreUnobservable : Obligations.StaleSampleSlotsAreUnobservable :=
  ⟨fun _ _ h => outcomesAgree_step h, fun k _ _ h => outcomesAgree_run k h,
    fun _ _ => State.agree_withStores_of_cursor_eq_zero rfl⟩

end Sys2Proof.Machine
end

section
/-! PROOF. A command other than SOFT_RESET changes only the state of its own unit (spec/10_state.md R44 to R52;
45_control.md R192; log entry 23). -/

namespace Sys2Proof.Machine

variable {s t : State}

/-- MMK_DECODE changes MMK_DEC0, MMK_DEC1 and STATUS (43_parser.md R155). -/
theorem execMmkDecode_frame {arg : Byte} (h : execMmkDecode arg s = .next t) :
    ∃ d0 d1 c, t = State.finish { s with mmkDec0 := d0, mmkDec1 := d1 } c := by
  obtain ⟨c, -, ht⟩ | ⟨-, -, ht, -⟩ := execMmkDecode_cases (arg := arg) h
  · exact ⟨_, _, c, ht⟩
  · exact ⟨_, _, .ok, ht⟩

/-- Settles O26, by the constructors of the command: each next state is `s` with the fields of one unit and STATUS
written. -/
theorem commandsChangeOnlyTheirUnit : Obligations.CommandsChangeOnlyTheirUnit := by
  intro i s t h hreset
  cases i with
  | nop a | crcStart a | crcFeed a | crcComputeRx a | buildRtuRead a | buildRtuWrite a | buildMmk a | validateRtu a
  | smpClear a | clearStatus a =>
    cases h
    simp [opcode]
  | crcLoadProfile a => obtain ⟨-, rfl⟩ | ⟨-, rfl⟩ | ⟨-, rfl⟩ := execCrcLoadProfile_cases h <;> simp [opcode]
  | extractF32 a => obtain ⟨-, rfl⟩ | ⟨-, rfl⟩ := execExtractF32_cases h <;> simp [opcode]
  | extractU16 a => obtain ⟨-, rfl⟩ | ⟨-, rfl⟩ := execExtractU16_cases h <;> simp [opcode]
  | mmkDecode a =>
    obtain ⟨d0, d1, c, rfl⟩ := execMmkDecode_frame (arg := a) h
    simp [opcode]
  | smpAdd a =>
    obtain ⟨-, rfl⟩ | ⟨-, -, rfl⟩ | ⟨-, -, rfl⟩ := execSmpAdd_cases h
    · simp [opcode]
    · simp [opcode]
    · obtain ⟨-, hfill⟩ | ⟨-, hfill⟩ := State.fill_cases _ _ _ <;> rw [hfill] <;> simp [opcode]
  | softReset a => exact absurd rfl hreset

end Sys2Proof.Machine
end

section
/-! PROOF. The CRC algorithm on 16-bit registers is the one of the spec on numbers (spec/41_crc.md R111, R115;
10_state.md R29), and feeding the bytes of a frame one by one is CRC_COMPUTE_RX. -/

namespace Sys2Proof.Machine

/-! The reversal on numbers (00_scope.md R8) -/

/-- A sum of distinct powers of two has the bits that chose them. -/
theorem testBit_sum_two_pow (n : Nat) (c : Nat → Bool) (i : Nat) :
    ((List.range n).map fun j => if c j then 2 ^ j else 0).sum.testBit i = (decide (i < n) && c i) := by
  induction n generalizing c i with
  | zero => simp
  | succ n ih =>
    have hbit : ((List.range (n + 1)).map fun j => if c j then 2 ^ j else 0).sum =
        Nat.bit (c 0) ((List.range n).map fun j => if c (j + 1) then 2 ^ j else 0).sum := by
      have hdouble (j : Nat) : (if c (j + 1) then 2 ^ (j + 1) else 0) = 2 * if c (j + 1) then 2 ^ j else 0 := by
        split <;> omega
      rw [List.range_succ_eq_map, List.map_cons, List.sum_cons, List.map_map]
      simp only [Function.comp_def, Nat.succ_eq_add_one, hdouble, List.sum_map_mul_left]
      cases c 0 <;> simp [Nat.bit, Nat.add_comm]
    rw [hbit]
    cases i with
    | zero => simp
    | succ i => rw [Nat.testBit_bit_succ, ih]; simp

@[simp] theorem testBit_revNat (n v i : Nat) :
    (revNat n v).testBit i = (decide (i < n) && v.testBit (n - 1 - i)) :=
  testBit_sum_two_pow n (fun j => v.testBit (n - 1 - j)) i

/-- The reversal of a bit vector is the one of its number. -/
theorem toNat_reverse_eq_revNat {n : Nat} (x : BitVec n) : x.reverse.toNat = revNat n x.toNat := by
  apply Nat.eq_of_testBit_eq
  intro i
  rw [testBit_revNat, BitVec.testBit_toNat, BitVec.testBit_toNat, BitVec.getLsbD_reverse, BitVec.getMsbD]

/-! Iterates (41_crc.md R111) -/

/-- Iterates of functions that correspond correspond. -/
theorem map_repeatFn {α β : Type} {φ : α → β} {f : α → α} {g : β → β} (h : ∀ x, φ (f x) = g (φ x)) (n : Nat) (x : α) :
    φ (repeatFn f n x) = repeatFn g n (φ x) := by
  induction n generalizing x with
  | zero => rfl
  | succ n ih => rw [repeatFn, repeatFn, ih, h]

namespace CrcProfile

variable (p : CrcProfile)

/-! A W-bit register in a 16-bit one -/

theorem width_cases : p.width16 = true ∧ crcWidth p = 16 ∨ p.width16 = false ∧ crcWidth p = 8 := by
  cases h : p.width16 <;> simp [crcWidth, h]

/-- Masking takes the number modulo 2^W. -/
theorem toNat_and_mask (x : Half) : (x &&& p.mask).toNat = x.toNat % 2 ^ crcWidth p := by
  rw [BitVec.toNat_and, ← Nat.and_two_pow_sub_one_eq_mod]
  obtain ⟨h, hw⟩ | ⟨h, hw⟩ := p.width_cases <;> simp [mask, h, hw]

/-- Reversing a masked register reverses its W bits. -/
theorem toNat_revW (x : Half) : (p.revW (x &&& p.mask)).toNat = revNat (crcWidth p) (x.toNat % 2 ^ crcWidth p) := by
  rw [← toNat_and_mask, revW]
  obtain ⟨h, hw⟩ | ⟨h, hw⟩ := p.width_cases
  · rw [if_pos h, hw, toNat_reverse_eq_revNat]
  · have hlow : (loByte (x &&& p.mask)).toNat = (x &&& p.mask).toNat := by
      have := p.toNat_and_mask x
      rw [hw] at this
      rw [loByte, BitVec.extractLsb'_toNat, Nat.shiftRight_zero]
      omega
    rw [if_neg (by simp [h]), hw, BitVec.toNat_setWidth_of_le (by decide), toNat_reverse_eq_revNat, hlow]

/-- `crc_out` on the register is the one on its number (10_state.md R29). -/
theorem toNat_out (x : Half) : (p.out x).toNat = crcOutNat p x.toNat := by
  rw [out, toNat_and_mask, BitVec.toNat_xor, crcOutNat, apply_ite BitVec.toNat, toNat_revW, toNat_and_mask]

/-! One step (41_crc.md R111) -/

theorem toNat_shiftLsb (x : Half) :
    (p.shiftLsb x).toNat = lsbShiftNat (p.poly.toNat % 2 ^ crcWidth p) x.toNat := by
  have hbit : x.getLsbD 0 = true ↔ x.toNat % 2 = 1 := by
    rw [BitVec.getLsbD, Nat.testBit_zero, decide_eq_true_iff]
  rw [shiftLsb, lsbShiftNat, apply_ite BitVec.toNat, BitVec.toNat_xor, toNat_and_mask, BitVec.toNat_ushiftRight,
    Nat.shiftRight_one]
  exact if_congr hbit rfl rfl

/-- A left shift of a 16-bit register, taken modulo 2^W. -/
theorem toNat_shiftLeft_one_mod (x : Half) : (x <<< 1).toNat % 2 ^ crcWidth p = 2 * x.toNat % 2 ^ crcWidth p := by
  rw [BitVec.toNat_shiftLeft, Nat.shiftLeft_eq, pow_one, Nat.mul_comm]
  obtain ⟨-, hw⟩ | ⟨-, hw⟩ := p.width_cases <;> rw [hw] <;> omega

theorem toNat_shiftMsb (x : Half) :
    (p.shiftMsb x).toNat = msbShiftNat (crcWidth p) (p.poly.toNat % 2 ^ crcWidth p) x.toNat := by
  have htop : (if p.width16 then x.getLsbD 15 else x.getLsbD 7) = x.toNat.testBit (crcWidth p - 1) := by
    obtain ⟨h, hw⟩ | ⟨h, hw⟩ := p.width_cases <;> simp [h, hw, BitVec.getLsbD]
  rw [shiftMsb, toNat_and_mask, msbShiftNat, htop]
  split
  · rw [BitVec.toNat_xor, toNat_and_mask, Nat.xor_mod_two_pow, toNat_shiftLeft_one_mod, ← Nat.xor_mod_two_pow]
  · exact p.toNat_shiftLeft_one_mod x

theorem toNat_inputByte (b : Byte) :
    (p.inputByte b).toNat = if p.refin then revNat 8 b.toNat else b.toNat := by
  rw [inputByte, apply_ite BitVec.toNat, toNat_reverse_eq_revNat]

/-- `crc_step` on the register is the one on its number. -/
theorem toNat_step (x : Half) (b : Byte) : (p.step x b).toNat = crcStepNat p x.toNat b.toNat := by
  have hin : ((p.inputByte b).setWidth 16 : Half).toNat = if p.refin then revNat 8 b.toNat else b.toNat := by
    rw [BitVec.toNat_setWidth_of_le (by decide), toNat_inputByte]
  have htop : (if p.width16 then (p.inputByte b).setWidth 16 <<< 8 else (p.inputByte b).setWidth 16 : Half).toNat =
      (if p.refin then revNat 8 b.toNat else b.toNat) * 2 ^ (crcWidth p - 8) := by
    rw [← toNat_inputByte]
    have hlt := (p.inputByte b).isLt
    obtain ⟨h, hw⟩ | ⟨h, hw⟩ := p.width_cases
    · rw [if_pos h, hw, BitVec.toNat_shiftLeft, Nat.shiftLeft_eq, BitVec.toNat_setWidth_of_le (by decide)]
      omega
    · rw [if_neg (by simp [h]), hw, BitVec.toNat_setWidth_of_le (by decide)]
      omega
  simp only [step, crcStepNat]
  rw [apply_ite BitVec.toNat, map_repeatFn p.toNat_shiftLsb, map_repeatFn p.toNat_shiftMsb, BitVec.toNat_xor,
    BitVec.toNat_xor, toNat_and_mask, hin, htop]

/-- A byte sequence on the register is the fold of `crc_step` on its number. -/
theorem toNat_feed (x : Half) (d : List Byte) :
    (p.feed x d).toNat = (d.map BitVec.toNat).foldl (crcStepNat p) x.toNat := by
  induction d generalizing x with
  | nil => rfl
  | cons b d ih => rw [feed_cons, ih, toNat_step, List.map_cons, List.foldl_cons]

theorem toNat_start : p.start.toNat = p.init.toNat % 2 ^ crcWidth p := p.toNat_and_mask p.init

end CrcProfile

/-! Reading CRC_RESULT -/

/-- CRC_RESULT reads `crc_out` of CRC_STATE under the configuration in force (10_state.md R29). -/
theorem toNat_readAt_crcResult (s : State) : (readAt 0x024 s).toNat = crcOutNat (crcProfile s) s.crcState.toNat :=
  (toNat_readAt_field .crcResult (f := crcResult s) rfl (by decide)).trans ((crcProfile s).toNat_out s.crcState)

/-- Settles O9: the configuration of the statement is the one the registers hold. -/
theorem crcResultIsComputedAtTheRead : Obligations.CrcResultIsComputedAtTheRead := toNat_readAt_crcResult

/-! Feeding a frame -/

/-- `s` after a CRC command that leaves `x` in CRC_STATE (41_crc.md R110, R112, R114). -/
def State.withCrc (s : State) (x : Half) : State := State.finish { s with crcState := x } .ok

/-- A CRC_FEED after a CRC command. -/
theorem exec_crcFeed_withCrc (s : State) (x : Half) (b : Byte) :
    exec (.crcFeed b) (s.withCrc x) = .next (s.withCrc ((crcProfile s).step x b)) := by
  show Host.Outcome.next (State.finish { s.withCrc x with crcState := (crcProfile s).step x b } .ok) = _
  simp only [State.withCrc, State.finish, stickyErr_ok]

/-- One CRC_FEED for each byte of a sequence (41_crc.md R115). -/
theorem execAll_crcFeed (s : State) (x : Half) (d : List Byte) :
    execAll (d.map Instr.crcFeed) (s.withCrc x) = some (s.withCrc ((crcProfile s).feed x d)) := by
  induction d generalizing x with
  | nil => rfl
  | cons b d ih => rw [List.map_cons, execAll, exec_crcFeed_withCrc, CrcProfile.feed_cons]; exact ih _

/-- Settles O37: the feeds fold `crc_step` over the frame as CRC_COMPUTE_RX does, and CRC_RESULT reads `crc_out` of
it. -/
theorem feedingBytesEqualsComputeRx : Obligations.FeedingBytesEqualsComputeRx := by
  intro a b s p
  have hfeeds : (List.range s.rxLen.toNat).map (fun i => Instr.crcFeed (s.rx.read i)) = (rxFrame s).map .crcFeed :=
    (List.map_map (f := s.rx.read) (g := Instr.crcFeed)).symm
  have hbytes : (List.range s.rxLen.toNat).map (fun i => (s.rx.read i).toNat) = (rxFrame s).map BitVec.toNat :=
    (List.map_map (f := s.rx.read) (g := BitVec.toNat)).symm
  refine ⟨s.withCrc (p.feed p.start (rxFrame s)), ?_, rfl, ?_⟩
  · rw [hfeeds]
    exact execAll_crcFeed s p.start (rxFrame s)
  · rw [toNat_readAt_crcResult, hbytes, ← p.toNat_start, ← p.toNat_feed]
    rfl

end Sys2Proof.Machine
end

section
/-! PROOF. The bus (spec/20_memory.md R70, R71, R74, R75): which addresses select the window, which accesses fault, and
that every other event ends with a next state, since every command does (60_exceptions.md R204). -/

namespace Sys2Proof.Machine

variable {s : State} {o : Offset} {width : AccessWidth}

/-! The window (R70) -/

/-- An address of the window selects its distance from BASE. -/
theorem offsetOf_of_mem_window {a : Nat} (h : busBase ≤ a ∧ a < busBase + Config.window) :
    offsetOf a = some (BitVec.ofNat 12 (a - busBase)) := if_pos h

theorem offsetOf_eq_none_iff (a : Nat) : offsetOf a = none ↔ a < busBase ∨ busBase + 4096 ≤ a := by
  by_cases h : busBase ≤ a ∧ a < busBase + Config.window
  · simp [offsetOf_of_mem_window h, h.1, show a < busBase + 4096 from h.2]
  · rw [offsetOf, if_neg h]
    rw [Config.window] at h
    exact iff_of_true rfl (by omega)

theorem offsetOf_busAddress (o : Offset) : offsetOf (busAddress o) = some o := by
  have hmem : busBase ≤ busAddress o ∧ busAddress o < busBase + Config.window :=
    ⟨Nat.le_add_right _ _, Nat.add_lt_add_left o.isLt _⟩
  rw [offsetOf_of_mem_window hmem, busAddress, Nat.add_sub_cancel_left, BitVec.ofNat_toNat, BitVec.setWidth_eq]

/-! Serving an access with the reset line not asserted (R71) -/

theorem serve_read_of_accessOk (hreset : s.resetAsserted = false) (h : accessOk o width = true) :
    serve (.read o width) s = .next { s with answer := .data (readAt o s) } := by
  rw [serve, hreset, h]
  rfl

theorem serve_write_of_accessOk (hreset : s.resetAsserted = false) (h : accessOk o width = true) (v : Word) :
    serve (.write o width v) s = serveWrite o v { s with answer := .written } := by
  rw [serve, hreset, h]
  rfl

theorem serve_read_of_not_accessOk (hreset : s.resetAsserted = false) (h : accessOk o width = false) :
    serve (.read o width) s = .fault .busError := by
  rw [serve, hreset, h]
  rfl

theorem serve_write_of_not_accessOk (hreset : s.resetAsserted = false) (h : accessOk o width = false) (v : Word) :
    serve (.write o width v) s = .fault .busError := by
  rw [serve, hreset, h]
  rfl

theorem accessOk_eq_false_iff (o : Offset) (width : AccessWidth) :
    accessOk o width = false ↔ width ≠ .w32 ∨ o.toNat % 4 ≠ 0 := by
  rw [← Bool.not_eq_true, accessOk_iff, not_and_or]

/-- What a read returns depends on neither the pending events nor the reset line. -/
theorem readAt_served (s : State) (a : BusAnswer) (rest : List BusEvent) (o : Offset) :
    readAt o (s.served a rest) = readAt o s := by
  unfold readAt
  cases slotAt o with
  | reg r => cases r <;> rfl
  | _ => rfl

/-! What ends with a next state (R74) -/

theorem ite_ends {P : Prop} [Decidable P] {x y : Host.Outcome State Fault Refusal} (hx : ∃ t, x = .next t)
    (hy : ∃ t, y = .next t) : ∃ t, (if P then x else y) = .next t := by
  split
  · exact hx
  · exact hy

/-- Every command ends with a next state, whatever the state (60_exceptions.md R204). -/
theorem exec_ends (i : Instr) (s : State) : ∃ t, exec i s = .next t := by
  cases i with
  | nop a | crcStart a | crcFeed a | crcComputeRx a | buildRtuRead a | buildRtuWrite a | buildMmk a | validateRtu a
  | smpClear a | clearStatus a | softReset a => exact ⟨_, rfl⟩
  | crcLoadProfile a | smpAdd a => exact ite_ends ⟨_, rfl⟩ (ite_ends ⟨_, rfl⟩ ⟨_, rfl⟩)
  | extractF32 a | extractU16 a => exact ite_ends ⟨_, rfl⟩ ⟨_, rfl⟩
  | mmkDecode a =>
    simp only [exec, execMmkDecode]
    cases mmkParse (rxFrame s) <;> exact ⟨_, rfl⟩

theorem runWord_ends (w : Word) (s : State) : ∃ t, runWord w s = .next t := by
  unfold runWord
  cases decode w with
  | ok i => exact exec_ends i s
  | error e => exact ⟨_, rfl⟩

theorem serveWrite_ends (o : Offset) (v : Word) (s : State) : ∃ t, serveWrite o v s = .next t := by
  rcases hslot : slotAt o with r | k | k | _
  · by_cases hr : r = .cmd
    · subst hr
      rw [serveWrite_cmd hslot]
      exact runWord_ends v s
    · exact ⟨_, serveWrite_reg hslot hr⟩
  · exact ⟨_, serveWrite_txWord hslot⟩
  · exact ⟨_, serveWrite_rxWord hslot⟩
  · exact ⟨_, serveWrite_reserved hslot⟩

/-! The obligations -/

/-- Settles O19: BASE is a multiple of the window's size by its form, and the 12 bits of an offset stay in the window. -/
theorem busAddressesSelectWindowOffsets : Obligations.BusAddressesSelectWindowOffsets :=
  ⟨Nat.mul_mod_right _ _, fun o => ⟨rfl, offsetOf_busAddress o⟩, offsetOf_eq_none_iff⟩

/-- Settles O22, by the next event: a move of the reset line and a read always have a next state, a write has one since
every command ends. -/
theorem servedEventsNeverStop : Obligations.ServedEventsNeverStop := by
  intro s hserves
  unfold State.Serves at hserves
  cases hpending : s.pending with
  | nil => exact ⟨s, step_of_pending_nil hpending⟩
  | cons e rest =>
    rw [step_of_pending hpending]
    rw [hpending] at hserves
    cases e with
    | resetLine b => exact ⟨_, rfl⟩
    | read o width =>
      obtain ⟨hreset, haccess⟩ := hserves
      exact ⟨_, serve_read_of_accessOk (s := { s with pending := rest }) hreset haccess⟩
    | write o width v =>
      obtain ⟨hreset, haccess⟩ := hserves
      rw [serve_write_of_accessOk (s := { s with pending := rest }) hreset haccess]
      exact serveWrite_ends o v _

/-- Settles O7: the read is served, and its word is the one `s` holds. -/
theorem readsHaveNoSideEffect : Obligations.ReadsHaveNoSideEffect := by
  intro s rest o halign
  have hread := serve_read_of_accessOk (s := s.served s.answer rest) rfl ((accessOk_iff o .w32).mpr ⟨rfl, halign⟩)
  rw [readAt_served] at hread
  exact (step_of_pending rfl).trans hread

/-- Settles O16: such an access fails the bus's check, so nothing of it is served. -/
theorem unalignedOrNarrowAccessFaults : Obligations.UnalignedOrNarrowAccessFaults := by
  intro s rest o width v h
  have hbad := (accessOk_eq_false_iff o width).mpr h
  exact ⟨(step_of_pending rfl).trans (serve_read_of_not_accessOk rfl hbad),
    (step_of_pending rfl).trans (serve_write_of_not_accessOk rfl hbad v)⟩

end Sys2Proof.Machine
end

section
/-! PROOF. The command word: its three fields, the opcode map, and which words are legal (spec/30_encoding.md R90 to
R94). -/

namespace Sys2Proof
open Sys2Proof.Machine (commandWord)

/-! The fields of a word (R90) -/

/-- A word is its three fields. -/
theorem eq_append_fields (w : Word) : w = rsvField w ++ (argField w ++ opField w : Half) := by
  apply BitVec.eq_of_getLsbD_eq
  intro i hi
  simp only [rsvField, argField, opField, BitVec.getLsbD_append, BitVec.getLsbD_extractLsb']
  by_cases hop : i < 8
  · simp [hop, show i < 16 by omega]
  · by_cases harg : i < 16
    · simp [hop, harg, show i - 8 < 8 by omega, show 8 + (i - 8) = i by omega]
    · simp [harg, show i - 16 < 16 by omega, show 16 + (i - 16) = i by omega]

theorem eq_iff_fields {v w : Word} :
    v = w ↔ rsvField v = rsvField w ∧ argField v = argField w ∧ opField v = opField w := by
  refine ⟨fun h => by simp [h], fun ⟨hrsv, harg, hop⟩ => ?_⟩
  rw [eq_append_fields v, eq_append_fields w, hrsv, harg, hop]

theorem eq_commandWord_iff {w : Word} {op arg : Byte} :
    w = commandWord op arg ↔ rsvField w = 0 ∧ argField w = arg ∧ opField w = op := by
  obtain ⟨hrsv, harg, hop⟩ := Laws.EncodeFields.fields_of_append arg op
  rw [eq_iff_fields, commandWord, hrsv, harg, hop]

/-- A command is encoded as the word of its opcode and its operand. -/
theorem encode_eq_commandWord (i : Instr) : encode i = commandWord (opcode i) (operand i) := rfl

/-! A word under a mask that keeps or drops whole fields -/

section
variable (v w : Word)

theorem rsvField_and : rsvField (v &&& w) = rsvField v &&& rsvField w := BitVec.extractLsb'_and

theorem argField_and : argField (v &&& w) = argField v &&& argField w := BitVec.extractLsb'_and

theorem opField_and : opField (v &&& w) = opField v &&& opField w := BitVec.extractLsb'_and

/-- The mask of R92 keeps RSV and OP. -/
theorem fields_and_legalMask :
    rsvField (w &&& 0xFFFF00FF) = rsvField w ∧ argField (w &&& 0xFFFF00FF) = 0 ∧
      opField (w &&& 0xFFFF00FF) = opField w := by
  rw [rsvField_and, argField_and, opField_and]
  exact ⟨BitVec.and_allOnes, BitVec.and_zero, BitVec.and_allOnes⟩

theorem fields_and_rsvMask :
    rsvField (w &&& 0xFFFF0000) = rsvField w ∧ argField (w &&& 0xFFFF0000) = 0 ∧
      opField (w &&& 0xFFFF0000) = 0 := by
  rw [rsvField_and, argField_and, opField_and]
  exact ⟨BitVec.and_allOnes, BitVec.and_zero, BitVec.and_zero⟩

theorem fields_and_opMask :
    rsvField (w &&& 0xFF) = 0 ∧ argField (w &&& 0xFF) = 0 ∧ opField (w &&& 0xFF) = opField w := by
  rw [rsvField_and, argField_and, opField_and]
  exact ⟨BitVec.and_zero, BitVec.and_zero, BitVec.and_allOnes⟩

theorem and_rsvMask_eq_zero_iff : w &&& 0xFFFF0000 = 0 ↔ rsvField w = 0 := by
  obtain ⟨hrsv, harg, hop⟩ := fields_and_rsvMask w
  rw [eq_iff_fields, hrsv, harg, hop]
  exact and_iff_left ⟨rfl, rfl⟩

theorem ushiftRight_eq_zero_iff : w >>> 16 = 0 ↔ rsvField w = 0 := by
  have hlt : w.toNat >>> 16 < 2 ^ 16 := by
    rw [Nat.shiftRight_eq_div_pow]
    exact Nat.div_lt_of_lt_mul w.isLt
  rw [← BitVec.toNat_inj, ← BitVec.toNat_inj (x := rsvField w), BitVec.toNat_ushiftRight, rsvField,
    BitVec.extractLsb'_toNat, Nat.mod_eq_of_lt hlt]
  exact Iff.rfl

end

/-! The opcode map (R91) -/

/-- The opcode map holds each command under its opcode, with ARG as its operand. -/
theorem decodeOp_eq_some_iff {op arg : Byte} {i : Instr} :
    decodeOp op arg = some i ↔ opcode i = op ∧ operand i = arg := by
  constructor
  · intro h
    unfold decodeOp at h
    split at h <;> cases h <;> exact ⟨rfl, rfl⟩
  · rintro ⟨rfl, rfl⟩
    cases i <;> rfl

/-- The sixteen opcodes of R91. -/
def opcodes : List Byte :=
  [0x00, 0x01, 0x02, 0x03, 0x04, 0x10, 0x11, 0x12, 0x20, 0x21, 0x22, 0x23, 0x30, 0x31, 0x3E, 0x3F]

/-- The opcodes are those of the commands, and under each there is a command for every operand. -/
theorem mem_opcodes_iff {op : Byte} (arg : Byte) : op ∈ opcodes ↔ ∃ i, opcode i = op ∧ operand i = arg := by
  constructor
  · have hmapped : ∀ op ∈ opcodes, ∃ i, decodeOp op arg = some i := by
      simp only [opcodes, List.forall_mem_cons, List.not_mem_nil, false_imp_iff, implies_true, and_true]
      refine ⟨?_, ?_, ?_, ?_, ?_, ?_, ?_, ?_, ?_, ?_, ?_, ?_, ?_, ?_, ?_, ?_⟩ <;> exact ⟨_, rfl⟩
    intro h
    obtain ⟨i, hi⟩ := hmapped op h
    exact ⟨i, decodeOp_eq_some_iff.mp hi⟩
  · rintro ⟨i, rfl, -⟩
    cases i <;> simp [opcode, opcodes]

/-- The OP values of R91 as words: RSV and ARG are 0. -/
theorem mem_opcodeWords_iff {w : Word} :
    w ∈ ([0x00, 0x01, 0x02, 0x03, 0x04, 0x10, 0x11, 0x12, 0x20, 0x21, 0x22, 0x23, 0x30, 0x31, 0x3E, 0x3F] :
      List Word) ↔ rsvField w = 0 ∧ argField w = 0 ∧ opField w ∈ opcodes := by
  change w ∈ opcodes.map (commandWord · 0) ↔ _
  simp only [List.mem_map, eq_comm (b := w), eq_commandWord_iff]
  constructor
  · rintro ⟨op, hmem, hrsv, harg, rfl⟩
    exact ⟨hrsv, harg, hmem⟩
  · rintro ⟨hrsv, harg, hmem⟩
    exact ⟨_, hmem, hrsv, harg, rfl⟩

/-! The decoder (R92) -/

theorem decode_of_rsvField_ne_zero {w : Word} (h : rsvField w ≠ 0) : decode w = .error .reservedBits := by
  rw [decode, if_neg h]

theorem decode_of_decodeOp_eq_some {w : Word} {i : Instr} (hrsv : rsvField w = 0)
    (h : decodeOp (opField w) (argField w) = some i) : decode w = .ok i := by
  rw [decode, if_pos hrsv, h]

theorem decode_of_decodeOp_eq_none {w : Word} (hrsv : rsvField w = 0)
    (h : decodeOp (opField w) (argField w) = none) : decode w = .error .unlistedOp := by
  rw [decode, if_pos hrsv, h]

/-- The three outcomes of decoding, in the order of R92. -/
theorem decode_cases (w : Word) :
    (rsvField w ≠ 0 ∧ decode w = .error .reservedBits) ∨
    (rsvField w = 0 ∧ decodeOp (opField w) (argField w) = none ∧ decode w = .error .unlistedOp) ∨
    (rsvField w = 0 ∧ ∃ i, decodeOp (opField w) (argField w) = some i ∧ decode w = .ok i) := by
  by_cases hrsv : rsvField w = 0
  · cases hop : decodeOp (opField w) (argField w) with
    | none => exact .inr (.inl ⟨hrsv, rfl, decode_of_decodeOp_eq_none hrsv hop⟩)
    | some i => exact .inr (.inr ⟨hrsv, i, rfl, decode_of_decodeOp_eq_some hrsv hop⟩)
  · exact .inl ⟨hrsv, decode_of_rsvField_ne_zero hrsv⟩

/-- The decoder answers a command exactly on the word that encodes it. -/
theorem decode_eq_ok_iff {w : Word} {i : Instr} : decode w = .ok i ↔ w = encode i := by
  rw [encode_eq_commandWord, eq_commandWord_iff]
  constructor
  · intro h
    obtain ⟨-, hd⟩ | ⟨-, -, hd⟩ | ⟨hrsv, j, hop, hd⟩ := decode_cases w <;> cases h.symm.trans hd
    obtain ⟨hopcode, hoperand⟩ := decodeOp_eq_some_iff.mp hop
    exact ⟨hrsv, hoperand.symm, hopcode.symm⟩
  · rintro ⟨hrsv, harg, hop⟩
    exact decode_of_decodeOp_eq_some hrsv (decodeOp_eq_some_iff.mpr ⟨hop.symm, harg.symm⟩)

theorem decode_eq_reservedBits_iff {w : Word} : decode w = .error .reservedBits ↔ rsvField w ≠ 0 := by
  refine ⟨fun h hrsv => ?_, decode_of_rsvField_ne_zero⟩
  obtain ⟨hne, -⟩ | ⟨-, -, hd⟩ | ⟨-, j, -, hd⟩ := decode_cases w
  · exact hne hrsv
  · cases h.symm.trans hd
  · cases h.symm.trans hd

/-- A word is legal exactly when its RSV is 0 and its OP is in the opcode map. -/
theorem exists_decode_eq_ok_iff {w : Word} : (∃ i, decode w = .ok i) ↔ rsvField w = 0 ∧ opField w ∈ opcodes := by
  simp only [decode_eq_ok_iff, encode_eq_commandWord, eq_commandWord_iff, mem_opcodes_iff (argField w)]
  constructor
  · rintro ⟨i, hrsv, harg, hop⟩
    exact ⟨hrsv, i, hop.symm, harg.symm⟩
  · rintro ⟨hrsv, i, hop, harg⟩
    exact ⟨i, hrsv, harg.symm, hop.symm⟩

/-! The obligations -/

/-- Settles O1: both halves say that a word decodes to a command exactly if it encodes it. -/
theorem decodeAndEncodeAgree : Obligations.DecodeAndEncodeAgree :=
  ⟨fun _ => decode_eq_ok_iff.mpr rfl, fun _ _ => decode_eq_ok_iff.mp⟩

/-- Settles O2: the masks keep RSV and OP, or RSV alone, and legality rests on these two fields. -/
theorem legalWordsAreTheSixteenOpcodes : Obligations.LegalWordsAreTheSixteenOpcodes := by
  intro w
  obtain ⟨hrsv, harg, hop⟩ := fields_and_legalMask w
  constructor
  · rw [exists_decode_eq_ok_iff, mem_opcodeWords_iff, hrsv, harg, hop]
    simp
  · rw [decode_eq_reservedBits_iff, Ne, Ne, and_rsvMask_eq_zero_iff]

/-- Settles O3: each word is the encoding of its command; an unlisted OP and a reserved bit are refused. -/
theorem wordsOfEveryFamilyDecode : Obligations.WordsOfEveryFamilyDecode :=
  ⟨decode_eq_ok_iff.mpr rfl, decode_eq_ok_iff.mpr rfl, decode_eq_ok_iff.mpr rfl, decode_eq_ok_iff.mpr rfl,
    decode_eq_ok_iff.mpr rfl, decode_eq_ok_iff.mpr rfl, decode_eq_ok_iff.mpr rfl, decode_eq_ok_iff.mpr rfl,
    decode_of_decodeOp_eq_none rfl rfl, decode_of_rsvField_ne_zero (by decide)⟩

/-- Settles O4: under each of these opcodes every ARG has its command, and none of these commands looks at it. -/
theorem ignoredArgHasNoEffect : Obligations.IgnoredArgHasNoEffect := by
  refine ⟨fun a op hmem => ?_, fun a b s => ⟨rfl, rfl, rfl, rfl, rfl, rfl, rfl, rfl, rfl, rfl, rfl⟩⟩
  have hsub : ([0x00, 0x01, 0x04, 0x10, 0x11, 0x12, 0x20, 0x23, 0x31, 0x3E, 0x3F] : List Byte) ⊆ opcodes := by decide
  obtain ⟨i, rfl, rfl⟩ := (mem_opcodes_iff a).mp (hsub hmem)
  exact ⟨i, decode_eq_ok_iff.mpr rfl, rfl⟩

end Sys2Proof

namespace Sys2Proof.Machine

theorem runWord_of_decode_error {w : Word} {e : DecodeError} (h : decode w = .error e) (s : State) :
    runWord w s = .next s.illegalCommand := by
  rw [runWord, h]

/-- Settles O5: by O2's reading of legality such a word does not decode, and ILLEGAL_CMD is an error code. -/
theorem illegalWordOnlySetsStatus : Obligations.IllegalWordOnlySetsStatus := by
  intro s rest w hillegal
  have hslot : slotAt 0x000 = .reg .cmd := slotAt_offset .cmd
  rw [step_facing_write s rest w rfl, serveWrite_cmd hslot]
  cases hdecode : decode w with
  | ok i =>
    obtain ⟨hrsv, hop⟩ := exists_decode_eq_ok_iff.mp ⟨i, hdecode⟩
    obtain ⟨hrsv', harg', hop'⟩ := fields_and_opMask w
    rw [mem_opcodeWords_iff, hrsv', harg', hop', Ne, ushiftRight_eq_zero_iff] at hillegal
    exact absurd hillegal (by simp [hrsv, hop])
  | error e =>
    rw [runWord_of_decode_error hdecode, State.illegalCommand, State.finish, stickyErr_of_isError rfl]

end Sys2Proof.Machine
end

section
/-! PROOF. MMK_DECODE accepts exactly the encapsulated frames (spec/30_encoding.md R99, R100; 43_parser.md R155). The
loop of the deframer un-stuffs what `stuff` makes and nothing else. -/

namespace Sys2Proof.Machine

/-! Stuffing and un-stuffing (R100, R155) -/

@[simp] theorem stuff_cons_marker (p : List Byte) : stuff (0x10 :: p) = 0x10 :: 0x10 :: stuff p := if_pos rfl

theorem stuff_cons_of_ne {x : Byte} (hx : x ≠ 0x10) (p : List Byte) : stuff (x :: p) = x :: stuff p := if_neg hx

/-- A byte other than 0x10 stands for itself. -/
theorem unstuff_cons_of_ne {x : Byte} (hx : x ≠ 0x10) (r : List Byte) :
    unstuff (x :: r) = (unstuff r).map (prependByte x) := by
  cases r with
  | nil => rfl
  | cons y r => rw [unstuff, if_pos hx]

/-- A pair 0x10 0x10 stands for one byte. -/
theorem unstuff_pair (r : List Byte) : unstuff (0x10 :: 0x10 :: r) = (unstuff r).map (prependByte 0x10) := by
  rw [unstuff, if_neg (not_not.mpr rfl), if_pos rfl]

/-- The end marker ends the loop. -/
theorem unstuff_end (r : List Byte) : unstuff (0x10 :: 0x04 :: r) = .ok ([], r) := by
  rw [unstuff, if_neg (not_not.mpr rfl), if_neg (by decide), if_pos rfl]

theorem unstuff_bad {y : Byte} (hpair : y ≠ 0x10) (hend : y ≠ 0x04) (r : List Byte) :
    unstuff (0x10 :: y :: r) = .error .mmkBadStuff := by
  rw [unstuff, if_neg (not_not.mpr rfl), if_neg hpair, if_neg hend]

theorem map_prependByte_eq_ok_iff {x : Except ResultCode (List Byte × List Byte)} {b : Byte} {p r : List Byte} :
    x.map (prependByte b) = .ok (p, r) ↔ ∃ q, p = b :: q ∧ x = .ok (q, r) := by
  cases x <;> simp [Except.map, prependByte, Prod.ext_iff, eq_comm (a := p)]

theorem map_prependByte_eq_error_iff {x : Except ResultCode (List Byte × List Byte)} {b : Byte} {c : ResultCode} :
    x.map (prependByte b) = .error c ↔ x = .error c := by
  cases x <;> simp [Except.map]

/-- Un-stuffing finds the bytes that were stuffed, in front of what the rest holds. -/
theorem unstuff_stuff_append (p body : List Byte) :
    unstuff (stuff p ++ body) = (unstuff body).map fun x => (p ++ x.1, x.2) := by
  induction p with
  | nil => cases h : unstuff body <;> simp [stuff, h, Except.map]
  | cons x p ih =>
    by_cases hx : x = 0x10
    · subst hx
      rw [stuff_cons_marker, List.cons_append, List.cons_append, unstuff_pair, ih]
      cases unstuff body <;> rfl
    · rw [stuff_cons_of_ne hx, List.cons_append, unstuff_cons_of_ne hx, ih]
      cases unstuff body <;> rfl

/-- What un-stuffing reads is the stuffed payload and the end marker. -/
theorem eq_stuff_append_of_unstuff_eq_ok {body p r : List Byte} (h : unstuff body = .ok (p, r)) :
    body = stuff p ++ 0x10 :: 0x04 :: r := by
  induction body using unstuff.induct generalizing p with
  | case1 | case2 => cases h
  | case3 x y tail hx ih =>
    rw [unstuff_cons_of_ne hx] at h
    obtain ⟨q, rfl, hq⟩ := map_prependByte_eq_ok_iff.mp h
    rw [ih hq, stuff_cons_of_ne hx, List.cons_append]
  | case4 x tail hx ih =>
    obtain rfl : x = 0x10 := not_not.mp hx
    rw [unstuff_pair] at h
    obtain ⟨q, rfl, hq⟩ := map_prependByte_eq_ok_iff.mp h
    rw [ih hq, stuff_cons_marker, List.cons_append, List.cons_append]
  | case5 x tail hx _ =>
    obtain rfl : x = 0x10 := not_not.mp hx
    rw [unstuff_end] at h
    cases h
    rfl
  | case6 x y tail hx hpair hend =>
    obtain rfl : x = 0x10 := not_not.mp hx
    rw [unstuff_bad hpair hend] at h
    cases h

/-- The loop ends well exactly on a stuffed payload, the end marker and whatever follows. -/
theorem unstuff_eq_ok_iff {body p r : List Byte} :
    unstuff body = .ok (p, r) ↔ body = stuff p ++ 0x10 :: 0x04 :: r := by
  refine ⟨eq_stuff_append_of_unstuff_eq_ok, ?_⟩
  rintro rfl
  rw [unstuff_stuff_append, unstuff_end, Except.map, List.append_nil]

/-- The failures of the loop. -/
theorem unstuff_eq_error {body : List Byte} {c : ResultCode} (h : unstuff body = .error c) :
    c = .mmkNoEnd ∨ c = .mmkBadStuff := by
  induction body using unstuff.induct with
  | case1 | case2 => cases h; exact .inl rfl
  | case3 x y tail hx ih =>
    rw [unstuff_cons_of_ne hx] at h
    exact ih (map_prependByte_eq_error_iff.mp h)
  | case4 x tail hx ih =>
    obtain rfl : x = 0x10 := not_not.mp hx
    rw [unstuff_pair] at h
    exact ih (map_prependByte_eq_error_iff.mp h)
  | case5 x tail hx _ =>
    obtain rfl : x = 0x10 := not_not.mp hx
    rw [unstuff_end] at h
    cases h
  | case6 x y tail hx hpair hend =>
    obtain rfl : x = 0x10 := not_not.mp hx
    rw [unstuff_bad hpair hend] at h
    cases h
    exact .inr rfl

/-! The checks after the loop (R155) -/

theorem mmkFrame_eq_cons (p : List Byte) : mmkFrame p = 0x10 :: 0x02 :: (stuff p ++ [0x10, 0x04]) := rfl

/-- The payload checks of MMK_DECODE: nothing after the end marker, seven bytes, the last two the CRC_MMK of the
first five. -/
def mmkPayloadCheck (x : List Byte × List Byte) : Except ResultCode (List Byte) :=
  if x.2 ≠ [] then .error .mmkTrailing
  else if x.1.length ≠ 7 then .error .mmkBadLength
  else if withMmkCrc (x.1.take 5) ≠ x.1 then .error .mmkCrcMismatch
  else .ok x.1

/-- Behind the start marker the deframer is the loop followed by the payload checks. -/
theorem mmkParse_start (body : List Byte) : mmkParse (0x10 :: 0x02 :: body) = (unstuff body).bind mmkPayloadCheck := by
  rw [mmkParse, if_pos ⟨rfl, rfl⟩]
  cases unstuff body <;> rfl

theorem mmkParse_of_no_start {frame : List Byte} (h : ∀ body, frame ≠ 0x10 :: 0x02 :: body) :
    mmkParse frame = .error .mmkBadStart := by
  unfold mmkParse
  split
  · rename_i a b body
    rw [if_neg]
    rintro ⟨rfl, rfl⟩
    exact h body rfl
  · rfl

/-- What the payload checks accept. -/
theorem mmkPayloadCheck_eq_ok_iff {p r out : List Byte} :
    mmkPayloadCheck (p, r) = .ok out ↔ r = [] ∧ out = p ∧ p.length = 7 ∧ withMmkCrc (p.take 5) = p := by
  unfold mmkPayloadCheck
  split
  · exact iff_of_false nofun fun h => absurd h.1 ‹_›
  · rename_i hr
    split
    · exact iff_of_false nofun fun ⟨_, _, hlen, _⟩ => absurd hlen ‹_›
    · rename_i hlen
      split
      · exact iff_of_false nofun fun ⟨_, _, _, hcrc⟩ => absurd hcrc ‹_›
      · rename_i hcrc
        rw [not_not] at hr hlen hcrc
        constructor
        · rintro ⟨⟩
          exact ⟨hr, rfl, hlen, hcrc⟩
        · rintro ⟨-, rfl, -⟩
          rfl

/-- The payload of an accepted frame is five bytes and their CRC_MMK. -/
theorem exists_eq_withMmkCrc_iff {p : List Byte} :
    (p.length = 7 ∧ withMmkCrc (p.take 5) = p) ↔ ∃ b0 b1 b2 b3 b4, p = withMmkCrc [b0, b1, b2, b3, b4] := by
  constructor
  · rintro ⟨hlen, hcrc⟩
    match p, hlen with
    | [b0, b1, b2, b3, b4, _, _], _ => exact ⟨b0, b1, b2, b3, b4, hcrc.symm⟩
  · rintro ⟨b0, b1, b2, b3, b4, rfl⟩
    exact ⟨rfl, rfl⟩

/-- The deframer accepts exactly the encapsulated frames of five bytes and their CRC_MMK, and gives that payload. -/
theorem mmkParse_eq_ok_iff {frame out : List Byte} :
    mmkParse frame = .ok out ↔
      frame = mmkFrame out ∧ ∃ b0 b1 b2 b3 b4, out = withMmkCrc [b0, b1, b2, b3, b4] := by
  rw [← exists_eq_withMmkCrc_iff]
  constructor
  · intro h
    by_cases hstart : ∃ body, frame = 0x10 :: 0x02 :: body
    · obtain ⟨body, rfl⟩ := hstart
      rw [mmkParse_start] at h
      cases hbody : unstuff body with
      | error c => rw [hbody] at h; cases h
      | ok x =>
        rw [hbody] at h
        obtain ⟨hr, rfl, hpayload⟩ := mmkPayloadCheck_eq_ok_iff.mp h
        rw [mmkFrame_eq_cons, eq_stuff_append_of_unstuff_eq_ok hbody, hr]
        exact ⟨rfl, hpayload⟩
    · rw [mmkParse_of_no_start (not_exists.mp hstart)] at h
      cases h
  · rintro ⟨rfl, hpayload⟩
    rw [mmkFrame_eq_cons, mmkParse_start, unstuff_eq_ok_iff.mpr rfl]
    exact mmkPayloadCheck_eq_ok_iff.mpr ⟨rfl, rfl, hpayload⟩

/-- The failures of MMK_DECODE are named by error codes. -/
theorem isError_of_mmkParse_eq_error {frame : List Byte} {c : ResultCode} (h : mmkParse frame = .error c) :
    isError c = true := by
  by_cases hstart : ∃ body, frame = 0x10 :: 0x02 :: body
  · obtain ⟨body, rfl⟩ := hstart
    rw [mmkParse_start] at h
    cases hbody : unstuff body with
    | error d =>
      rw [hbody] at h
      cases h
      obtain rfl | rfl := unstuff_eq_error hbody <;> rfl
    | ok x =>
      rw [hbody] at h
      change mmkPayloadCheck x = .error c at h
      unfold mmkPayloadCheck at h
      split_ifs at h <;> cases h <;> rfl
  · rw [mmkParse_of_no_start (not_exists.mp hstart)] at h
    cases h
    rfl

/-! The command -/

/-- A 16-bit field is its two bytes. -/
theorem hiByte_append_loByte (h : Half) : hiByte h ++ loByte h = h := by
  have hlt := h.isLt
  apply BitVec.eq_of_toNat_eq
  simp only [toNat_append_eq_add, hiByte, loByte, BitVec.extractLsb'_toNat, Nat.shiftRight_eq_div_pow]
  omega

/-- Four bytes make the same word however they are grouped. -/
theorem append_bytes_assoc (b3 b2 b1 b0 : Byte) : b3 ++ (b2 ++ (b1 ++ b0)) = b3 ++ b2 ++ b1 ++ b0 := by
  apply BitVec.eq_of_toNat_eq
  simp only [toNat_append_eq_add]
  omega

/-- MMK_DECODE on an accepted frame: the five bytes and their CRC_MMK (R155). -/
theorem execMmkDecode_of_accepted (a : Byte) {s : State} {b0 b1 b2 b3 b4 : Byte}
    (h : rxFrame s = mmkFrame (withMmkCrc [b0, b1, b2, b3, b4])) :
    execMmkDecode a s = .next { s with
      mmkDec0 := b3 ++ b2 ++ b1 ++ b0
      mmkDec1 := crcMmk [b0, b1, b2, b3, b4] ++ (0 : Byte) ++ b4
      lastResult := .ok } := by
  have hcrc := hiByte_append_loByte (crcMmk [b0, b1, b2, b3, b4])
  rw [execMmkDecode, mmkParse_eq_ok_iff.mpr ⟨h, b0, b1, b2, b3, b4, rfl⟩, ← append_bytes_assoc]
  conv_rhs => rw [← hcrc, ← append_bytes_assoc]
  simp only [State.finish, stickyErr_ok]
  rfl

/-- MMK_DECODE on any other frame writes STATUS only (R155). -/
theorem execMmkDecode_of_error (a : Byte) {s : State} {c : ResultCode} (h : mmkParse (rxFrame s) = .error c) :
    execMmkDecode a s = .next (s.finish c) := by
  rw [execMmkDecode, h]

/-- Settles O49, by what the deframer answers: a payload exactly on an accepted frame, or an error code. -/
theorem mmkDecodeAcceptsExactlyEncapsulatedFrames : Obligations.MmkDecodeAcceptsExactlyEncapsulatedFrames := by
  intro a s
  change ∃ t, execMmkDecode a s = .next t ∧ _
  cases hparse : mmkParse (rxFrame s) with
  | ok out =>
    obtain ⟨hframe, b0, b1, b2, b3, b4, rfl⟩ := mmkParse_eq_ok_iff.mp hparse
    refine ⟨_, execMmkDecode_of_accepted a hframe, iff_of_true rfl ⟨b0, b1, b2, b3, b4, hframe⟩, ?_⟩
    intro c0 c1 c2 c3 c4 hframe'
    exact Host.Outcome.next.inj ((execMmkDecode_of_accepted a hframe).symm.trans (execMmkDecode_of_accepted a hframe'))
  | error c =>
    have hreject : ∀ b0 b1 b2 b3 b4, rxFrame s ≠ mmkFrame (withMmkCrc [b0, b1, b2, b3, b4]) := by
      intro b0 b1 b2 b3 b4 hframe
      cases hparse.symm.trans (mmkParse_eq_ok_iff.mpr ⟨hframe, b0, b1, b2, b3, b4, rfl⟩)
    have hcode : c ≠ .ok := by
      rintro rfl
      cases isError_of_mmkParse_eq_error hparse
    refine ⟨_, execMmkDecode_of_error a hparse, iff_of_false hcode ?_, ?_⟩
    · rintro ⟨b0, b1, b2, b3, b4, hframe⟩
      exact hreject b0 b1 b2 b3 b4 hframe
    · intro b0 b1 b2 b3 b4 hframe
      exact absurd hframe (hreject b0 b1 b2 b3 b4)

end Sys2Proof.Machine
end

section
/-! PROOF. `RXLOAD` of the host assembly: its writes of the RX window, then of RX_LEN (spec/30_encoding.md R102, R103;
20_memory.md R72). -/

namespace Sys2Proof.Machine

/-! Words stored one after the other -/

/-- Storing the words `f k` of a buffer, for the `k` listed, in that order. -/
def Memory.writeWords (m : Memory) (f : Nat → Word) (ks : List Nat) : Memory :=
  ks.foldl (fun m k => m.writeWord k (f k)) m

theorem Memory.writeWords_range_succ (m : Memory) (f : Nat → Word) (n : Nat) :
    m.writeWords f (List.range (n + 1)) = (m.writeWords f (List.range n)).writeWord n (f n) := by
  rw [Memory.writeWords, List.range_succ, List.foldl_append]
  rfl

theorem Memory.wf_writeWords {m : Memory} (w : m.wf = true) (f : Nat → Word) (ks : List Nat) :
    (m.writeWords f ks).wf = true := by
  induction ks generalizing m with
  | nil => exact w
  | cons k ks ih => exact ih (Memory.wf_writeWord w k (f k))

/-- A buffer after its first `n` words were stored from packed bytes. -/
theorem Memory.read_writeWords_packWord {m : Memory} (w : m.wf = true) (byteAt : Nat → Byte) (n i : Nat) :
    (m.writeWords (packWord byteAt) (List.range n)).read i = if i < 4 * n then byteAt i else m.read i := by
  induction n with
  | zero => exact (if_neg (Nat.not_lt_zero i)).symm
  | succ n ih =>
    rw [Memory.writeWords_range_succ, Memory.read_writeWord (Memory.wf_writeWords w _ _), ih]
    by_cases hlast : 4 * n ≤ i ∧ i < 4 * n + 4
    · rw [if_pos hlast, if_pos (by omega), byteOf_packWord _ _ (by omega), Nat.add_sub_cancel' hlast.1]
    · rw [if_neg hlast]
      exact if_congr (by omega) rfl rfl

/-! Runs of writes -/

/-- The writes of the RX window that store the words `f k`, for the `k` listed. -/
def rxWrites (f : Nat → Word) (ks : List Nat) : List BusEvent :=
  ks.map fun k => .write (rxWindowOffset k) .w32 (f k)

/-- `RXLOAD` writes the words its bytes fill, then RX_LEN. -/
theorem asmRxload_eq (bs : List Byte) :
    asmRxload bs = rxWrites (packWord (bs.getD · 0)) (List.range ((bs.length + 3) / 4)) ++
      [.write Reg.rxLen.offset .w32 (BitVec.ofNat 32 bs.length)] := rfl

/-- `s` with another content of RX. -/
def State.withRx (s : State) (m : Memory) : State := { s with rx := m }

/-- A step that serves a write of the RX window stores the word. -/
theorem step_served_rxWrite (s : State) (a : BusAnswer) (rest : List BusEvent) {k : Nat} (hk : k < 64) (v : Word) :
    step (s.served a (.write (rxWindowOffset k) .w32 v :: rest)) =
      .next ((s.withRx (s.rx.writeWord k v)).served .written rest) := by
  have halign : (rxWindowOffset k).toNat % 4 = 0 := by
    rw [rxWindowOffset, BitVec.toNat_ofNat]
    omega
  exact (step_facing_write (s.served a []) rest v halign).trans (serveWrite_rxWord (slotAt_rxWindow hk))

/-- Serving writes of the RX window, one step for each, changes only RX, the pending events and the answer. -/
theorem run_rxWrites (f : Nat → Word) {ks : List Nat} (hks : ∀ k ∈ ks, k < 64) (n : Nat) (s : State)
    (a : BusAnswer) (rest : List BusEvent) :
    ∃ b, Host.Core.run Sys2Proof.core (ks.length + n) (s.served a (rxWrites f ks ++ rest)) =
      Host.Core.run Sys2Proof.core n ((s.withRx (s.rx.writeWords f ks)).served b rest) := by
  induction ks generalizing s a with
  | nil => exact ⟨a, by rw [List.length_nil, Nat.zero_add]; rfl⟩
  | cons k ks ih =>
    obtain ⟨hk, hks⟩ := List.forall_mem_cons.mp hks
    obtain ⟨b, hb⟩ := ih hks (s.withRx (s.rx.writeWord k (f k))) .written
    have hstep := step_served_rxWrite s a (rxWrites f ks ++ rest) hk (f k)
    refine ⟨b, ?_⟩
    rw [List.length_cons, Nat.add_right_comm]
    exact Eq.trans (run_succ_of_next (M := Sys2Proof.core) hstep) hb

/-- A step that serves a write of RX_LEN stores the number, up to 256 (10_state.md R40). -/
theorem step_served_rxLenWrite (s : State) (a : BusAnswer) (rest : List BusEvent) (v : Word) :
    step (s.served a (.write Reg.rxLen.offset .w32 v :: rest)) =
      .next (writeReg .rxLen v (s.served .written rest)) :=
  step_facing_write_reg (s.served a []) rest v .rxLen (by decide)

/-- The bytes of a buffer that begins with `bs`. -/
theorem Memory.bytes_eq_of_read {m : Memory} {bs : List Byte} (h : ∀ i, i < bs.length → m.read i = bs.getD i 0) :
    m.bytes bs.length = bs := by
  apply List.ext_getElem (Memory.length_bytes m bs.length)
  intro i _ hi
  simp [Memory.bytes, h i hi, hi]

/-- The run of `RXLOAD`: the words its bytes fill, then their number. -/
theorem run_asmRxload (s : State) (a : BusAnswer) (rest : List BusEvent) {bs : List Byte} (hlen : bs.length ≤ 256) :
    Host.Core.run Sys2Proof.core ((bs.length + 3) / 4 + 1) (s.served a (asmRxload bs ++ rest)) =
      .next (writeReg .rxLen (BitVec.ofNat 32 bs.length)
        ((s.withRx (s.rx.writeWords (packWord (bs.getD · 0)) (List.range ((bs.length + 3) / 4)))).served
          .written rest)) := by
  have hks : ∀ k ∈ List.range ((bs.length + 3) / 4), k < 64 := fun k hk => by
    have := List.mem_range.mp hk
    omega
  obtain ⟨b, hb⟩ := run_rxWrites (packWord (bs.getD · 0)) hks 1 s a
    (.write Reg.rxLen.offset .w32 (BitVec.ofNat 32 bs.length) :: rest)
  rw [List.length_range] at hb
  rw [asmRxload_eq, List.append_assoc, List.singleton_append, hb]
  exact run_succ_of_next (M := Sys2Proof.core) (step_served_rxLenWrite _ _ _ _)

/-- Settles O20: RX reads the bytes and zeros up to the end of their last word, and RX_LEN does not clamp them. -/
theorem rxloadPlacesTheFrame : Obligations.RxloadPlacesTheFrame := by
  intro s rest bs hwf hlen
  have hread := Memory.read_writeWords_packWord hwf (bs.getD · 0) ((bs.length + 3) / 4)
  have hcount : (clampRxLen (BitVec.ofNat 32 bs.length)).toNat = bs.length := by
    rw [toNat_clampRxLen, BitVec.toNat_ofNat]
    omega
  refine ⟨_, run_asmRxload s s.answer rest hlen, rfl, hcount, ?_, fun i hi => ?_⟩
  · refine (congrArg (Memory.bytes _) hcount).trans (Memory.bytes_eq_of_read fun i hi => ?_)
    exact (hread i).trans (if_pos (by omega))
  · refine (hread i).trans (if_congr Iff.rfl ?_ rfl)
    rw [List.getD_eq_default _ _ hi]

end Sys2Proof.Machine
end

section
/-! PROOF. The CRC commands (spec/41_crc.md R110, R112 to R114): each stores one value in CRC_STATE and ends with OK, but for
the profile number that CRC_LOAD_PROFILE refuses. -/

namespace Sys2Proof.Machine

/-- Every command has a word (spec/30_encoding.md R92). -/
theorem decode_encode (i : Instr) : decode (encode i) = .ok i := decode_eq_ok_iff.mpr rfl

/-- A CRC command changes CRC_STATE and LAST_RESULT alone: OK leaves ERR as it is. -/
theorem State.withCrc_eq (s : State) (x : Half) : s.withCrc x = { s with crcState := x, lastResult := .ok } := by
  rw [withCrc, finish, stickyErr_ok]

/-- The bytes of the received frame as numbers. -/
theorem map_toNat_rxFrame (s : State) :
    (rxFrame s).map BitVec.toNat = (List.range s.rxLen.toNat).map fun i => (s.rx.read i).toNat :=
  List.map_map (f := s.rx.read) (g := BitVec.toNat)

/-- Settles O34: the step on the 16-bit register is the one on its number. -/
theorem crcFeedIsOneCrcStep : Obligations.CrcFeedIsOneCrcStep := fun a s =>
  ⟨decode_encode (.crcFeed a), _, rfl, s.withCrc_eq _, (crcProfile s).toNat_step s.crcState a⟩

/-- Settles O36: the start and every step are those on numbers. -/
theorem crcComputeRxFoldsTheFrame : Obligations.CrcComputeRxFoldsTheFrame := by
  intro a s
  refine ⟨decode_encode (.crcComputeRx a), _, rfl, s.withCrc_eq _, ?_⟩
  rw [← map_toNat_rxFrame]
  exact ((crcProfile s).toNat_feed _ (rxFrame s)).trans (by rw [CrcProfile.toNat_start]; rfl)

/-- Settles O33. -/
theorem crcStartLoadsMaskedInit : Obligations.CrcStartLoadsMaskedInit := fun a s =>
  ⟨decode_encode (.crcStart a), _, rfl, s.withCrc_eq _, (crcProfile s).toNat_start⟩

/-- A profile number that names no profile (R113). -/
theorem execCrcLoadProfile_of_two_le {a : Byte} (h : 2 ≤ a.toNat) (s : State) :
    execCrcLoadProfile a s = .next (s.finish .badArg) := by
  rw [execCrcLoadProfile, argNat, if_neg (by omega), if_neg (by omega)]

/-- Settles O35: a loaded profile ends with OK, BAD_ARG sets ERR. -/
theorem crcLoadProfileLoadsOrRefuses : Obligations.CrcLoadProfileLoadsOrRefuses := by
  intro s
  have hload (cfg : BitVec 4) (poly init xorout : Half) : (s.loadProfile cfg poly init xorout).finish .ok =
      { s with
        crcCfg := cfg, crcPoly := poly, crcInit := init, crcXorout := xorout, crcState := init, lastResult := .ok } := by
    rw [State.finish, stickyErr_ok]
    rfl
  have hbad : s.finish .badArg = { s with lastResult := .badArg, err := true } := by
    rw [State.finish, stickyErr_of_isError rfl]
  refine ⟨fun a => decode_encode (.crcLoadProfile a), ?_, ?_, fun a ha => ?_⟩
  · exact congrArg Host.Outcome.next (hload 0x3 0xA001 0xFFFF 0x0000)
  · exact congrArg Host.Outcome.next (hload 0x1 0x8005 0x0000 0x0000)
  · rw [← hbad]
    exact execCrcLoadProfile_of_two_le ha s

end Sys2Proof.Machine
end

section
/-! PROOF. What the CRC algorithm computes: the fixed functions of spec/41_crc.md R117, the CRC of a sequence followed by its
own CRC (R116 (d)), and the mirror image of an algorithm (R116 (b), (c)). -/

namespace Sys2Proof.Machine

/-! The fixed functions (R117) -/

/-- Settles O38: for both profiles `compute` is the state after the bytes, and the check values are evaluated. -/
theorem fixedCrcFunctionsUseTheirProfiles : Obligations.FixedCrcFunctionsUseTheirProfiles := by
  refine ⟨fun d => ⟨?_, ?_⟩, by decide +kernel, by decide +kernel⟩
  · rw [crcRtu_eq]
    exact rtuProfile.toNat_feed 0xFFFF d
  · rw [crcMmk_eq]
    exact mmkProfile.toNat_feed 0x0000 d

namespace CrcProfile

variable {p : CrcProfile}

/-! Shifts that feed nothing back (R111) -/

theorem shiftLsb_of_clear {x : Half} (h : x.getLsbD 0 = false) : p.shiftLsb x = x >>> 1 := by
  rw [shiftLsb, h, if_neg Bool.false_ne_true]

theorem shiftMsb_of_clear (hw : p.width16 = true) {x : Half} (h : x.getLsbD 15 = false) : p.shiftMsb x = x <<< 1 := by
  rw [shiftMsb, if_pos hw, h, if_neg Bool.false_ne_true, mask, if_pos hw]
  exact BitVec.and_allOnes

/-- As long as the bits shifted out are 0, the LSB-end algorithm shifts. -/
theorem repeatFn_shiftLsb_of_clear (n : Nat) {x : Half} (h : ∀ i < n, x.getLsbD i = false) :
    repeatFn p.shiftLsb n x = x >>> n := by
  induction n generalizing x with
  | zero => rfl
  | succ n ih =>
    have hrest : ∀ i < n, (x >>> 1).getLsbD i = false := fun i hi => by
      rw [BitVec.getLsbD_ushiftRight, h _ (by omega)]
    rw [repeatFn, shiftLsb_of_clear (h 0 n.succ_pos), ih hrest, ← BitVec.shiftRight_add, Nat.add_comm]

/-- As long as the bits shifted out are 0, the MSB-end algorithm shifts. -/
theorem repeatFn_shiftMsb_of_clear (hw : p.width16 = true) (n : Nat) {x : Half}
    (h : ∀ i < n, x.getLsbD (15 - i) = false) : repeatFn p.shiftMsb n x = x <<< n := by
  induction n generalizing x with
  | zero => rw [repeatFn, BitVec.shiftLeft_zero]
  | succ n ih =>
    have hrest : ∀ i < n, (x <<< 1).getLsbD (15 - i) = false := fun i hi => by
      rw [BitVec.getLsbD_shiftLeft, Nat.sub_sub, h (i + 1) (by omega), Bool.and_false]
    rw [repeatFn, shiftMsb_of_clear hw (h 0 n.succ_pos), ih hrest, ← BitVec.shiftLeft_add, Nat.add_comm]

/-! A step that meets its own CRC byte (R116 (d)) -/

section
variable (hw : p.width16 = true) (hin : p.refin = false)
include hw hin

/-- A low byte equal to the one the LSB-end algorithm holds cancels it, and eight shifts are left. -/
theorem step_low_byte (halg : p.alg = true) (x : Half) : p.step x (x.setWidth 8) = x >>> 8 := by
  have hclear : ∀ i < 8, (x ^^^ (x.setWidth 8).setWidth 16).getLsbD i = false := by grind
  have hshift : (x ^^^ (x.setWidth 8).setWidth 16) >>> 8 = x >>> 8 := by
    ext i hi
    grind
  simp only [step, inputByte, mask, hw, hin, halg, if_true, Bool.false_eq_true, if_false]
  rw [show x &&& 0xFFFF = x from BitVec.and_allOnes, repeatFn_shiftLsb_of_clear 8 hclear, hshift]

/-- A high byte equal to the one the MSB-end algorithm holds cancels it, and eight shifts are left. -/
theorem step_high_byte (halg : p.alg = false) (x : Half) : p.step x ((x >>> 8).setWidth 8) = x <<< 8 := by
  have hclear : ∀ i < 8, (x ^^^ ((x >>> 8).setWidth 8).setWidth 16 <<< 8).getLsbD (15 - i) = false := by
    grind
  have hshift : (x ^^^ ((x >>> 8).setWidth 8).setWidth 16 <<< 8) <<< 8 = x <<< 8 := by
    ext i hi
    grind
  simp only [step, inputByte, mask, hw, hin, halg, if_true, Bool.false_eq_true, if_false]
  rw [show x &&& 0xFFFF = x from BitVec.and_allOnes, repeatFn_shiftMsb_of_clear hw 8 hclear, hshift]

theorem feed_own_bytes_lsb (halg : p.alg = true) (x : Half) :
    p.feed x [x.setWidth 8, (x >>> 8).setWidth 8] = 0 := by
  rw [feed_cons, feed_cons, feed_nil, step_low_byte hw hin halg, step_low_byte hw hin halg, ← BitVec.shiftRight_add]
  exact BitVec.ushiftRight_eq_zero le_rfl

theorem feed_own_bytes_msb (halg : p.alg = false) (x : Half) :
    p.feed x [(x >>> 8).setWidth 8, x.setWidth 8] = 0 := by
  have hlow : ((x <<< 8) >>> 8).setWidth 8 = x.setWidth 8 := by
    ext i hi
    grind
  rw [feed_cons, feed_cons, feed_nil, step_high_byte hw hin halg, ← hlow, step_high_byte hw hin halg,
    ← BitVec.shiftLeft_add]
  exact BitVec.shiftLeft_eq_zero le_rfl

end

/-! Bits of a W-bit register -/

section
variable (p : CrcProfile) (x y : Half) (i : Nat)

theorem crcWidth_pos : 0 < crcWidth p := by
  obtain ⟨-, hw⟩ | ⟨-, hw⟩ := p.width_cases <;> omega

theorem crcWidth_le : crcWidth p ≤ 16 := by
  obtain ⟨-, hw⟩ | ⟨-, hw⟩ := p.width_cases <;> omega

@[simp] theorem getLsbD_mask : p.mask.getLsbD i = decide (i < crcWidth p) := by
  obtain ⟨h, hw⟩ | ⟨h, hw⟩ := p.width_cases
  · rw [mask, if_pos h, hw, show (0xFFFF : Half) = BitVec.allOnes 16 from rfl, BitVec.getLsbD_allOnes]
  · rw [mask, if_neg (by simp [h]), hw, show (0x00FF : Half) = (BitVec.allOnes 8).setWidth 16 from rfl,
      BitVec.getLsbD_setWidth, BitVec.getLsbD_allOnes]
    grind

@[simp] theorem getLsbD_revW :
    (p.revW x).getLsbD i = (decide (i < crcWidth p) && x.getLsbD (crcWidth p - 1 - i)) := by
  obtain ⟨h, hw⟩ | ⟨h, hw⟩ := p.width_cases
  · rw [revW, if_pos h, hw, BitVec.getLsbD_reverse, BitVec.getMsbD]
  · rw [revW, if_neg (by simp [h]), hw, BitVec.getLsbD_setWidth, BitVec.getLsbD_reverse, BitVec.getMsbD, loByte,
      BitVec.getLsbD_extractLsb']
    grind

/-- The MSB-end shift tests the highest bit of the W. -/
theorem shiftMsb_eq : p.shiftMsb x =
    (if x.getLsbD (crcWidth p - 1) then (x <<< 1) ^^^ (p.poly &&& p.mask) else x <<< 1) &&& p.mask := by
  rw [shiftMsb]
  obtain ⟨h, hw⟩ | ⟨h, hw⟩ := p.width_cases <;> simp [h, hw]

/-! The reversal of the W bits -/

theorem revW_xor : p.revW (x ^^^ y) = p.revW x ^^^ p.revW y := by
  apply BitVec.eq_of_getLsbD_eq
  intro i hi
  by_cases h : i < crcWidth p <;> simp [h]

theorem revW_masked : p.revW (x &&& p.mask) = p.revW x := by
  apply BitVec.eq_of_getLsbD_eq
  intro i hi
  by_cases h : i < crcWidth p
  · simp [h, show crcWidth p - 1 - i < crcWidth p by omega]
  · simp [h]

theorem revW_and_mask : p.revW x &&& p.mask = p.revW x := by
  apply BitVec.eq_of_getLsbD_eq
  intro i hi
  by_cases h : i < crcWidth p <;> simp [h]

theorem revW_revW : p.revW (p.revW x) = x &&& p.mask := by
  apply BitVec.eq_of_getLsbD_eq
  intro i hi
  by_cases h : i < crcWidth p
  · simp [h, show crcWidth p - 1 - i < crcWidth p by omega, show crcWidth p - 1 - (crcWidth p - 1 - i) = i by omega]
  · simp [h]

theorem revW_shiftLeft_one : p.revW (x <<< 1) = p.revW x >>> 1 := by
  have := p.crcWidth_le
  apply BitVec.eq_of_getLsbD_eq
  intro i hi
  rw [getLsbD_revW, BitVec.getLsbD_ushiftRight, getLsbD_revW, BitVec.getLsbD_shiftLeft]
  grind

/-- A byte that enters at the top of the W bits enters reversed at the bottom. -/
theorem revW_top_byte (b : Byte) :
    p.revW (if p.width16 then b.setWidth 16 <<< 8 else b.setWidth 16) = b.reverse.setWidth 16 := by
  apply BitVec.eq_of_getLsbD_eq
  intro i hi
  have hrev : (b.reverse.setWidth 16 : Half).getLsbD i = (decide (i < 8) && b.getLsbD (7 - i)) := by
    rw [BitVec.getLsbD_setWidth, BitVec.getLsbD_reverse, BitVec.getMsbD]
    grind
  rw [getLsbD_revW, hrev]
  obtain ⟨h, hw⟩ | ⟨h, hw⟩ := p.width_cases
  · rw [hw, if_pos h, BitVec.getLsbD_shiftLeft, BitVec.getLsbD_setWidth]
    grind
  · rw [hw, if_neg (by simp [h]), BitVec.getLsbD_setWidth]
    grind

end

/-! The mirror image of an algorithm (R116 (b), (c)) -/

/-- The other algorithm's configuration for the CRCs of an MSB-end configuration. -/
def mirror (p : CrcProfile) : CrcProfile :=
  { p with alg := true, refin := !p.refin, refout := !p.refout, poly := p.revW p.poly, init := p.revW p.init }

section
variable (p : CrcProfile) (x : Half) (b : Byte)

theorem mirror_start : p.mirror.start = p.revW p.start := by
  rw [start, start, revW_masked]
  exact p.revW_and_mask p.init

theorem mirror_inputByte : p.mirror.inputByte b = (p.inputByte b).reverse := by
  cases h : p.refin <;> simp [inputByte, mirror, h]

theorem mirror_shiftLsb : p.mirror.shiftLsb (p.revW x) = p.revW (p.shiftMsb x) := by
  have hbit : (p.revW x).getLsbD 0 = x.getLsbD (crcWidth p - 1) := by
    rw [getLsbD_revW, decide_eq_true p.crcWidth_pos, Bool.true_and, Nat.sub_zero]
  have hpoly : p.mirror.poly &&& p.mirror.mask = p.revW p.poly := p.revW_and_mask p.poly
  rw [shiftLsb, hbit, hpoly, shiftMsb_eq, revW_masked, apply_ite p.revW, revW_xor, revW_masked, revW_shiftLeft_one]

theorem mirror_step (halg : p.alg = false) : p.mirror.step (p.revW x) b = p.revW (p.step x b) := by
  have hmask : p.revW x &&& p.mirror.mask = p.revW (x &&& p.mask) :=
    (p.revW_and_mask x).trans (p.revW_masked x).symm
  simp only [step, halg, show p.mirror.alg = true from rfl, if_true, Bool.false_eq_true, if_false]
  rw [hmask, mirror_inputByte, ← revW_top_byte, ← revW_xor, map_repeatFn fun x => (p.mirror_shiftLsb x).symm]

theorem mirror_feed (halg : p.alg = false) (d : List Byte) : p.mirror.feed (p.revW x) d = p.revW (p.feed x d) := by
  induction d generalizing x with
  | nil => rfl
  | cons b d ih => rw [feed_cons, feed_cons, mirror_step p x b halg, ih]

theorem mirror_out : p.mirror.out (p.revW x) = p.out x := by
  have hmask : p.revW x &&& p.mirror.mask = p.revW x := p.revW_and_mask x
  have hrev : p.mirror.revW = p.revW := rfl
  simp only [out, hmask, hrev, revW_masked, revW_revW]
  cases h : p.refout <;> simp [mirror, h, mask]

/-- An MSB-end configuration and its mirror image compute the same CRCs. -/
theorem mirror_compute (halg : p.alg = false) (d : List Byte) : p.mirror.compute d = p.compute d := by
  rw [compute, mirror_start, mirror_feed p _ halg, mirror_out, compute]

end

end CrcProfile

/-- Settles O39: the CRC is the state after the sequence, and its own bytes empty it. -/
theorem appendedCrcLeavesResidueZero : Obligations.AppendedCrcLeavesResidueZero := by
  intro d
  constructor
  · rw [crcRtu_eq (d ++ _), CrcProfile.feed_append, ← crcRtu_eq]
    exact CrcProfile.feed_own_bytes_lsb rfl rfl rfl _
  · rw [crcMmk_eq (d ++ _), CrcProfile.feed_append, ← crcMmk_eq]
    exact CrcProfile.feed_own_bytes_msb rfl rfl rfl _

/-- Settles O40: each LSB-end configuration is the mirror image of the MSB-end one with the flags exchanged. -/
theorem theTwoAlgorithmsMirrorEachOther : Obligations.TheTwoAlgorithmsMirrorEachOther :=
  fun w16 poly init xorout d =>
    ⟨CrcProfile.mirror_compute ⟨w16, false, true, true, poly, init, xorout⟩ rfl d,
      CrcProfile.mirror_compute ⟨w16, false, false, false, poly, init, xorout⟩ rfl d⟩

end Sys2Proof.Machine
end

section
/-! PROOF. The request builders (spec/42_framer.md R130 to R134): what `emit` leaves in TX, and the length of a stuffed
payload. -/

namespace Sys2Proof.Machine

/-! The bytes of a 16-bit field -/

theorem hiByte_eq (h : Half) : hiByte h = (h >>> 8).setWidth 8 := rfl

theorem loByte_eq (h : Half) : loByte h = h.setWidth 8 := rfl

/-! Emitting a frame (R130) -/

/-- `s` after a builder that emits the frame `f`. -/
def State.withFrame (s : State) (f : List Byte) : State := (s.emit f).finish .ok

theorem exec_buildRtuRead (a : Byte) (s : State) :
    exec (.buildRtuRead a) s = .next (s.withFrame (withRtuCrc (readRequest s))) := rfl

theorem exec_buildRtuWrite (a : Byte) (s : State) :
    exec (.buildRtuWrite a) s = .next (s.withFrame (withRtuCrc (writeRequest s))) := rfl

theorem exec_buildMmk (a : Byte) (s : State) :
    exec (.buildMmk a) s = .next (s.withFrame (mmkFrame (mmkPayload s))) := rfl

/-- A builder changes TX, TX_LEN and LAST_RESULT alone: OK leaves ERR as it is. -/
theorem State.withFrame_eq (s : State) (f : List Byte) :
    s.withFrame f = { s with tx := (s.withFrame f).tx, txLen := (s.withFrame f).txLen, lastResult := .ok } := by
  simp only [withFrame, emit, finish, stickyErr_ok]

@[simp] theorem State.withFrame_txLen (s : State) (f : List Byte) :
    (s.withFrame f).txLen = BitVec.ofNat 5 f.length := by
  rw [withFrame, finish_txLen, emit_txLen]

/-- Each byte of TX after a frame was emitted. -/
theorem State.read_withFrame {s : State} (w : s.tx.wf = true) (f : List Byte) (i : Nat) :
    (s.withFrame f).tx.read i = if i < 18 then f.getD i 0x00 else s.tx.read i := by
  rw [withFrame, finish_tx, emit_tx, Memory.read_writeBytes _ _ w, length_txImage]
  by_cases hi : i < 18 <;> simp [txImage, Config.txMax, hi]

/-- Settles O41: both builders emit a frame of eight bytes. -/
theorem rtuBuildersEmitTheirFrames : Obligations.RtuBuildersEmitTheirFrames := by
  intro a s w hi lo frame built
  have hbuilt (f : List Byte) (hlen : f.length = 8) : built f (s.withFrame f) := by
    refine ⟨?_, State.read_withFrame w f⟩
    have heq := s.withFrame_eq f
    rwa [State.withFrame_txLen, hlen] at heq
  have hread : withRtuCrc (readRequest s) = frame s.frCount := by
    simp only [withRtuCrc, readRequest, hiByte_eq, loByte_eq, frame, hi, lo]
  have hwrite : withRtuCrc (writeRequest s) = frame s.frValue := by
    simp only [withRtuCrc, writeRequest, hiByte_eq, loByte_eq, frame, hi, lo]
  refine ⟨decode_encode (.buildRtuRead a), decode_encode (.buildRtuWrite a), ⟨_, exec_buildRtuRead a s, ?_⟩,
    ⟨_, exec_buildRtuWrite a s, ?_⟩⟩
  · rw [hread]
    exact hbuilt _ rfl
  · rw [hwrite]
    exact hbuilt _ rfl

/-! Stuffed frames (30_encoding.md R100) -/

theorem stuff_eq_flatMap (p : List Byte) : stuff p = p.flatMap fun b => if b = 0x10 then [0x10, 0x10] else [b] := by
  induction p with
  | nil => rfl
  | cons b p ih => rw [stuff, List.flatMap_cons, ← ih]; split <;> rfl

/-- Stuffing adds one byte for each 0x10. -/
theorem length_stuff (p : List Byte) : (stuff p).length = p.length + p.count 0x10 := by
  induction p with
  | nil => rfl
  | cons b p ih =>
    by_cases hb : b = 0x10
    · rw [hb, stuff_cons_marker, List.count_cons_self]
      simp only [List.length_cons, ih]
      omega
    · rw [stuff_cons_of_ne hb, List.count_cons_of_ne hb]
      simp only [List.length_cons, ih]
      omega

theorem length_mmkFrame (p : List Byte) : (mmkFrame p).length = p.length + p.count 0x10 + 4 := by
  simp only [mmkFrame, List.length_append, List.length_cons, List.length_nil, length_stuff]
  omega

/-- TX_LEN has five bits, enough for the length of an encapsulated frame (R135). -/
theorem toNat_txLen_mmkFrame (s : State) :
    (s.withFrame (mmkFrame (mmkPayload s))).txLen.toNat = (mmkFrame (mmkPayload s)).length := by
  have hmax := (length_mmkFrame_mmkPayload s).2
  rw [State.withFrame_txLen, BitVec.toNat_ofNat, Nat.mod_eq_of_lt (by omega)]

/-- TX_LEN after BUILD_MMK: 11 and one for each 0x10 of the payload (R134). -/
theorem toNat_txLen_buildMmk (s : State) :
    (s.withFrame (mmkFrame (mmkPayload s))).txLen.toNat = 11 + (mmkPayload s).count 0x10 := by
  have hlen : (mmkPayload s).length = 7 := rfl
  rw [toNat_txLen_mmkFrame, length_mmkFrame, hlen]
  omega

/-- Settles O42: the frame of the statement is the one BUILD_MMK emits, with its stuffing written as a map. -/
theorem mmkBuilderEmitsTheStuffedFrame : Obligations.MmkBuilderEmitsTheStuffedFrame := by
  intro a s w f p frame
  have hframe : mmkFrame (mmkPayload s) = frame := by
    simp only [mmkFrame, stuff_eq_flatMap, mmkPayload, withMmkCrc, mmkFields, hiByte_eq, loByte_eq, frame, p, f]
  refine ⟨decode_encode (.buildMmk a), _, exec_buildMmk a s, s.withFrame_eq _, toNat_txLen_buildMmk s, ?_, ?_⟩
  · rw [toNat_txLen_mmkFrame, hframe]
  · rw [← hframe]
    exact State.read_withFrame w _

end Sys2Proof.Machine
end

section
/-! PROOF. No MMK payload has six bytes 0x10 (spec/42_framer.md R135). A payload and its CRC leave residue 0 (41_crc.md
R116 (d)); seven bytes of which six are 0x10 do not, since a CRC step keeps different states apart. -/

namespace Sys2Proof.Machine

theorem repeatFn_eq_iterate {α : Type} (f : α → α) (n : Nat) : repeatFn f n = f^[n] := by
  induction n with
  | zero => rfl
  | succ n ih => funext x; rw [repeatFn, ih, Function.iterate_succ_apply]

/-! A 16-bit MSB-end step loses nothing (41_crc.md R111) -/

namespace CrcProfile

/-- At W = 16 the mask drops nothing. -/
theorem shiftMsb_eq_xor {p : CrcProfile} (hw : p.width16 = true) (x : Half) :
    p.shiftMsb x = x <<< 1 ^^^ if x.getLsbD 15 then p.poly else 0 := by
  simp only [shiftMsb, mask, hw, if_true]
  rw [show (0xFFFF : Half) = BitVec.allOnes 16 from rfl, BitVec.and_allOnes, BitVec.and_allOnes]
  split
  · rfl
  · exact BitVec.xor_zero.symm

section
variable {p : CrcProfile} (hw : p.width16 = true) (hpoly : p.poly.getLsbD 0 = true)
include hw hpoly

/-- Bit 0 of the result is the bit shifted out. -/
theorem getLsbD_zero_shiftMsb (x : Half) : (p.shiftMsb x).getLsbD 0 = x.getLsbD 15 := by
  rw [shiftMsb_eq_xor hw, BitVec.getLsbD_xor, apply_ite (BitVec.getLsbD · 0), hpoly]
  cases x.getLsbD 15 <;> simp

theorem shiftMsb_injective : Function.Injective p.shiftMsb := by
  intro x y h
  have htop : x.getLsbD 15 = y.getLsbD 15 := by
    rw [← getLsbD_zero_shiftMsb hw hpoly, h, getLsbD_zero_shiftMsb hw hpoly]
  have hshift : x <<< 1 = y <<< 1 := by
    rwa [shiftMsb_eq_xor hw, shiftMsb_eq_xor hw, htop, BitVec.xor_left_inj] at h
  apply BitVec.eq_of_getLsbD_eq
  intro i hi
  by_cases hlast : i = 15
  · rw [hlast, htop]
  · have hup (z : Half) : (z <<< 1).getLsbD (i + 1) = z.getLsbD i := by
      rw [BitVec.getLsbD_shiftLeft, decide_eq_true (by omega : i + 1 < 16)]
      rfl
    rw [← hup x, hshift, hup y]

variable (halg : p.alg = false) (hin : p.refin = false)
include halg hin

/-- Equal next states come from equal states with the byte added at the top. -/
theorem xor_eq_of_step_eq {x y : Half} {b c : Byte} (h : p.step x b = p.step y c) :
    x ^^^ b.setWidth 16 <<< 8 = y ^^^ c.setWidth 16 <<< 8 := by
  simp only [step, inputByte, mask, hw, hin, halg, if_true, Bool.false_eq_true, if_false, repeatFn_eq_iterate] at h
  rw [show x &&& 0xFFFF = x from BitVec.and_allOnes, show y &&& 0xFFFF = y from BitVec.and_allOnes] at h
  exact (shiftMsb_injective hw hpoly).iterate 8 h

/-- The byte enters at the top, so the low bytes were equal. -/
theorem setWidth_eq_of_step_eq {x y : Half} {b c : Byte} (h : p.step x b = p.step y c) :
    x.setWidth 8 = y.setWidth 8 := by
  have hlow (z : Half) (d : Byte) : (z ^^^ d.setWidth 16 <<< 8).setWidth 8 = z.setWidth 8 := by
    ext i hi
    grind
  rw [← hlow x b, xor_eq_of_step_eq hw hpoly halg hin h, hlow]

/-- Different states stay different under the same bytes. -/
theorem feed_injective (d : List Byte) : Function.Injective (p.feed · d) := by
  induction d with
  | nil => exact fun x y h => h
  | cons b d ih =>
    intro x y h
    exact (BitVec.xor_left_inj _).mp (xor_eq_of_step_eq hw hpoly halg hin (ih h))

/-- If two states meet after one byte each and the same bytes from there on, they had the same low byte, whatever those
two bytes were. -/
theorem setWidth_eq_of_feed_eq {x y : Half} {b c : Byte} {d : List Byte}
    (h : p.feed x (b :: d) = p.feed y (c :: d)) : x.setWidth 8 = y.setWidth 8 :=
  setWidth_eq_of_step_eq hw hpoly halg hin (feed_injective hw hpoly halg hin d h)

end

end CrcProfile

/-! One byte among bytes of one value -/

/-- A list that holds a value at all places but at most one. -/
theorem exists_replicate_append_of_length_le_count {α : Type} [DecidableEq α] {a : α} {q : List α} (hne : q ≠ [])
    (h : q.length ≤ q.count a + 1) :
    ∃ i j b, q = List.replicate i a ++ b :: List.replicate j a := by
  induction q with
  | nil => exact absurd rfl hne
  | cons x q ih =>
    by_cases hx : x = a
    · subst hx
      rw [List.count_cons_self, List.length_cons] at h
      by_cases hq : q = []
      · exact ⟨0, 0, x, by rw [hq]; rfl⟩
      · obtain ⟨i, j, b, hij⟩ := ih hq (by omega)
        exact ⟨i + 1, j, b, by rw [List.replicate_succ, List.cons_append, ← hij]⟩
    · rw [List.count_cons_of_ne hx, List.length_cons] at h
      have hcount : q.count a = q.length := by
        have := q.count_le_length (a := a)
        omega
      have hall : q = List.replicate q.length a :=
        List.eq_replicate_iff.mpr ⟨rfl, fun b hb => (List.count_eq_length.mp hcount b hb).symm⟩
      exact ⟨0, q.length, x, by rw [← hall]; rfl⟩

/-! Payloads of bytes 0x10 (R135) -/

/-- For each place in seven bytes 0x10, a state from which the byte there and those after it leave residue 0. The bytes
in front of it lead to a state with another low byte. -/
theorem exists_state_with_residue_zero {i j : Nat} (h : i + j = 6) :
    ∃ y : Half, mmkProfile.feed y (List.replicate (j + 1) 0x10) = 0 ∧
      (mmkProfile.feed 0 (List.replicate i 0x10)).setWidth 8 ≠ y.setWidth 8 := by
  obtain rfl : j = 6 - i := by omega
  have hi : i < 7 := by omega
  interval_cases i
  · exact ⟨0xDA14, by decide +kernel⟩
  · exact ⟨0x16BC, by decide +kernel⟩
  · exact ⟨0xBC14, by decide +kernel⟩
  · exact ⟨0x17E8, by decide +kernel⟩
  · exact ⟨0x6811, by decide +kernel⟩
  · exact ⟨0x1010, by decide +kernel⟩
  · exact ⟨0x1000, by decide +kernel⟩

/-- Seven bytes with residue 0 have at most five bytes 0x10. -/
theorem count_le_five_of_crcMmk_eq_zero {q : List Byte} (hlen : q.length = 7) (hcrc : crcMmk q = 0) :
    q.count 0x10 ≤ 5 := by
  by_contra hcount
  obtain ⟨i, j, b, rfl⟩ := exists_replicate_append_of_length_le_count (a := (0x10 : Byte))
    (List.ne_nil_of_length_pos (by omega)) (by omega : q.length ≤ q.count 0x10 + 1)
  simp only [List.length_append, List.length_cons, List.length_replicate] at hlen
  obtain ⟨y, hy, hlow⟩ := exists_state_with_residue_zero (i := i) (j := j) (by omega)
  rw [crcMmk_eq, CrcProfile.feed_append] at hcrc
  exact hlow (CrcProfile.setWidth_eq_of_feed_eq (p := mmkProfile) rfl (by decide) rfl rfl (hcrc.trans hy.symm))

/-- The payload ends with its own CRC. -/
theorem count_mmkPayload_le (s : State) : (mmkPayload s).count 0x10 ≤ 5 :=
  count_le_five_of_crcMmk_eq_zero rfl (appendedCrcLeavesResidueZero (mmkFields s)).2

/-- Settles O43: the length is 11 and one for each 0x10 of the payload, of which there are at most five. -/
theorem mmkFramesNeverExceedSixteenBytes : Obligations.MmkFramesNeverExceedSixteenBytes := by
  intro a s
  refine ⟨_, exec_buildMmk a s, ?_⟩
  have hcount := count_mmkPayload_le s
  rw [toNat_txLen_buildMmk]
  omega

end Sys2Proof.Machine
end

section
/-! PROOF. The deframer on the frames of BUILD_MMK, and on frames that are none (spec/43_parser.md R155, R156). -/

namespace Sys2Proof.Machine

/-! Ending a command (60_exceptions.md R202) -/

/-- OK leaves ERR as it is. -/
theorem State.finish_ok (s : State) : s.finish .ok = { s with lastResult := .ok } := by
  rw [finish, stickyErr_ok]

theorem State.finish_of_isError {c : ResultCode} (h : isError c = true) (s : State) :
    s.finish c = { s with lastResult := c, err := true } := by
  rw [finish, stickyErr_of_isError h]

/-! Frames of BUILD_MMK (R156 (1)) -/

/-- A received frame that is TX of another state, byte by byte, is the frame that was emitted there. -/
theorem rxFrame_eq_of_read_withFrame {s u : State} (w : s.tx.wf = true) {f : List Byte} (hmax : f.length ≤ 18)
    (hlen : u.rxLen.toNat = f.length) (hread : ∀ i, i < f.length → u.rx.read i = (s.withFrame f).tx.read i) :
    rxFrame u = f := by
  rw [rxFrame, rxCount, hlen]
  refine Memory.bytes_eq_of_read fun i hi => ?_
  rw [hread i hi, State.read_withFrame w, if_pos (by omega)]

/-- Settles O51: RX holds the encapsulated frame of the descriptor's five bytes, which MMK_DECODE accepts. -/
theorem mmkFramesDecodeToTheirDescriptor : Obligations.MmkFramesDecodeToTheirDescriptor := by
  intro a b s t u w ht hlen hread
  obtain rfl := Host.Outcome.next.inj ((exec_buildMmk a s).symm.trans ht)
  rw [toNat_txLen_mmkFrame] at hlen hread
  have hframe := rxFrame_eq_of_read_withFrame w (length_mmkFrame_mmkPayload s).2 hlen hread
  exact execMmkDecode_of_accepted b hframe

/-! Malformed frames (R155) -/

/-- The loop ends without an end marker when the frame does. -/
theorem unstuff_stuff (p : List Byte) : unstuff (stuff p) = .error .mmkNoEnd := by
  rw [← (stuff p).append_nil, unstuff_stuff_append]
  rfl

theorem unstuff_stuff_append_of_error (p : List Byte) {body : List Byte} {c : ResultCode}
    (h : unstuff body = .error c) : unstuff (stuff p ++ body) = .error c := by
  rw [unstuff_stuff_append, h]
  rfl

/-- A failure of the loop is the failure of the deframer. -/
theorem mmkParse_of_unstuff_error {body : List Byte} {c : ResultCode} (h : unstuff body = .error c) :
    mmkParse (0x10 :: 0x02 :: body) = .error c := by
  rw [mmkParse_start, h]
  rfl

/-- Behind an end marker the payload checks decide. -/
theorem mmkParse_mmkFrame_append (p r : List Byte) : mmkParse (mmkFrame p ++ r) = mmkPayloadCheck (p, r) := by
  have hbody : mmkFrame p ++ r = 0x10 :: 0x02 :: (stuff p ++ 0x10 :: 0x04 :: r) := by
    simp only [mmkFrame_eq_cons, List.cons_append, List.append_assoc, List.nil_append]
  rw [hbody, mmkParse_start, unstuff_eq_ok_iff.mpr rfl]
  rfl

theorem mmkParse_mmkFrame (p : List Byte) : mmkParse (mmkFrame p) = mmkPayloadCheck (p, []) := by
  rw [← mmkParse_mmkFrame_append, List.append_nil]

theorem mmkPayloadCheck_trailing (p : List Byte) (y : Byte) (r : List Byte) :
    mmkPayloadCheck (p, y :: r) = .error .mmkTrailing := if_pos (List.cons_ne_nil y r)

theorem mmkPayloadCheck_badLength {p : List Byte} (hlen : p.length ≠ 7) :
    mmkPayloadCheck (p, []) = .error .mmkBadLength := by
  rw [mmkPayloadCheck, if_neg (not_not.mpr rfl), if_pos hlen]

theorem mmkPayloadCheck_crcMismatch {p : List Byte} (hlen : p.length = 7) (hcrc : withMmkCrc (p.take 5) ≠ p) :
    mmkPayloadCheck (p, []) = .error .mmkCrcMismatch := by
  rw [mmkPayloadCheck, if_neg (not_not.mpr rfl), if_neg (not_not.mpr hlen), if_pos hcrc]

/-- Settles O50: each clause is one failure of the start marker, of the loop or of the payload checks, and a failure of
the deframer writes STATUS alone. -/
theorem mmkDecodeNamesEveryMalformedFrame : Obligations.MmkDecodeNamesEveryMalformedFrame := by
  intro a s p ends
  have hends {frame : List Byte} {c : ResultCode} (hframe : rxFrame s = frame) (h : mmkParse frame = .error c) :
      ends c := by
    rw [← hframe] at h
    simp only [ends, ← State.finish_of_isError (isError_of_mmkParse_eq_error h)]
    exact execMmkDecode_of_error a h
  refine ⟨fun hstart => ?_, fun hframe => ?_, fun hframe => ?_, fun y r hpair hend hframe => ?_, fun y r hframe => ?_,
    fun hframe hlen => ?_, fun hframe hlen hcrc => ?_⟩
  · exact hends rfl (mmkParse_of_no_start hstart)
  · exact hends hframe (mmkParse_of_unstuff_error (unstuff_stuff p))
  · exact hends hframe (mmkParse_of_unstuff_error (unstuff_stuff_append_of_error p rfl))
  · exact hends hframe (mmkParse_of_unstuff_error (unstuff_stuff_append_of_error p (unstuff_bad hpair hend r)))
  · exact hends hframe ((mmkParse_mmkFrame_append p _).trans (mmkPayloadCheck_trailing p y r))
  · exact hends hframe ((mmkParse_mmkFrame p).trans (mmkPayloadCheck_badLength hlen))
  · exact hends hframe ((mmkParse_mmkFrame p).trans (mmkPayloadCheck_crcMismatch hlen hcrc))

end Sys2Proof.Machine
end

section
/-! PROOF. The residue of a frame under CRC_RTU (spec/41_crc.md R116 (d), 43_parser.md R157 (7)): it is 0 only when the
last two bytes are the CRC of the bytes before them. -/

namespace Sys2Proof.Machine

namespace CrcProfile

variable {p : CrcProfile}

section
variable (hpoly : p.poly.getLsbD 15 = true) (hw : p.width16 = true)
include hpoly hw

/-- Bit 15 of the result is the bit shifted out. -/
theorem getLsbD_fifteen_shiftLsb (x : Half) : (p.shiftLsb x).getLsbD 15 = x.getLsbD 0 := by
  rw [shiftLsb, mask, if_pos hw, show (0xFFFF : Half) = BitVec.allOnes 16 from rfl, BitVec.and_allOnes]
  cases h : x.getLsbD 0 <;> simp [hpoly]

/-- If the `n` bits at the top are 0 after `n` LSB-end shifts, the bits shifted out were. -/
theorem clear_of_repeatFn_shiftLsb (n : Nat) {x : Half}
    (h : ∀ i < n, (repeatFn p.shiftLsb n x).getLsbD (15 - i) = false) :
    ∀ i < n, x.getLsbD i = false := by
  induction n generalizing x with
  | zero => exact fun i hi => absurd hi i.not_lt_zero
  | succ n ih =>
    rw [repeatFn] at h
    have hrest : ∀ i < n, (p.shiftLsb x).getLsbD i = false := ih fun i hi => h i (Nat.lt_succ_of_lt hi)
    have hfirst : x.getLsbD 0 = false := by
      by_cases hn : n ≤ 15
      · have hlast := h n n.lt_succ_self
        rwa [repeatFn_shiftLsb_of_clear n hrest, BitVec.getLsbD_ushiftRight, Nat.add_sub_cancel' hn,
          getLsbD_fifteen_shiftLsb hpoly hw] at hlast
      · rw [← getLsbD_fifteen_shiftLsb hpoly hw, hrest 15 (by omega)]
    rw [shiftLsb_of_clear hfirst] at hrest
    intro i hi
    cases i with
    | zero => exact hfirst
    | succ i =>
      have := hrest i (by omega)
      rwa [BitVec.getLsbD_ushiftRight, Nat.add_comm] at this

variable (halg : p.alg = true) (hin : p.refin = false)
include halg hin

/-- A step that leaves the high byte 0 met the low byte of its state. -/
theorem eq_setWidth_of_step_high_zero {x : Half} {b : Byte} (h : p.step x b >>> 8 = 0) : b = x.setWidth 8 := by
  have hstep : p.step x b = repeatFn p.shiftLsb 8 (x ^^^ b.setWidth 16) := by
    simp only [step, inputByte, mask, hw, hin, halg, if_true, Bool.false_eq_true, if_false]
    rw [show x &&& 0xFFFF = x from BitVec.and_allOnes]
  have htop : ∀ i < 8, (repeatFn p.shiftLsb 8 (x ^^^ b.setWidth 16)).getLsbD (15 - i) = false := fun i hi => by
    have := congrArg (BitVec.getLsbD · (7 - i)) h
    rw [hstep, BitVec.getLsbD_ushiftRight, show 8 + (7 - i) = 15 - i by omega] at this
    exact this.trans BitVec.getLsbD_zero
  have hclear := clear_of_repeatFn_shiftLsb hpoly hw 8 htop
  apply BitVec.eq_of_getLsbD_eq
  intro i hi
  have := hclear i hi
  rw [BitVec.getLsbD_xor, BitVec.getLsbD_setWidth] at this
  rw [BitVec.getLsbD_setWidth]
  grind

/-- Only its own bytes, low byte first, empty the CRC of the LSB-end algorithm. -/
theorem feed_pair_lsb_eq_zero_iff {x : Half} {b c : Byte} :
    p.feed x [b, c] = 0 ↔ b = x.setWidth 8 ∧ c = (x >>> 8).setWidth 8 := by
  constructor
  · intro h
    rw [feed_cons, feed_cons, feed_nil] at h
    have hc : c = (p.step x b).setWidth 8 :=
      eq_setWidth_of_step_high_zero hpoly hw halg hin (by rw [h]; rfl)
    have hhigh : p.step x b >>> 8 = 0 := by rw [← h, hc, step_low_byte hw hin halg]
    have hb := eq_setWidth_of_step_high_zero hpoly hw halg hin hhigh
    refine ⟨hb, ?_⟩
    rw [hc, hb, step_low_byte hw hin halg]
  · rintro ⟨rfl, rfl⟩
    exact feed_own_bytes_lsb hw hin halg x

end

end CrcProfile

theorem Memory.bytes_succ (m : Memory) (n : Nat) : m.bytes (n + 1) = m.bytes n ++ [m.read n] := by
  simp only [bytes, List.range_succ, List.map_append, List.map_cons, List.map_nil]

/-- The residue of a buffer's bytes is 0 exactly when the last two are the CRC_RTU of the others, low byte first. -/
theorem crcRtu_bytes_eq_zero_iff (m : Memory) {n : Nat} (hn : 2 ≤ n) :
    crcRtu (m.bytes n) = 0 ↔
      m.read (n - 2) = loByte (crcRtu (m.bytes (n - 2))) ∧ m.read (n - 1) = hiByte (crcRtu (m.bytes (n - 2))) := by
  obtain ⟨k, rfl⟩ := Nat.exists_eq_add_of_le' hn
  rw [Memory.bytes_succ, Memory.bytes_succ, List.append_assoc, crcRtu_eq, CrcProfile.feed_append, ← crcRtu_eq]
  exact CrcProfile.feed_pair_lsb_eq_zero_iff (p := rtuProfile) (by decide) rfl rfl rfl

end Sys2Proof.Machine
end

section
/-! PROOF. VALIDATE_RTU: the code it ends with and what it writes (spec/43_parser.md R151, R152, R156 (2)). -/

namespace Sys2Proof.Machine

/-! The code of the ordered checks (R151) -/

/-- Every code of VALIDATE_RTU but OK sets ERR. -/
theorem isError_validateCode (s : State) : isError (validateCode s) = decide (validateCode s ≠ .ok) := by
  obtain ⟨-, h⟩ | ⟨-, h, -⟩ | ⟨-, -, -, ⟨-, h⟩ | ⟨-, ⟨-, -, h⟩ | ⟨-, -, h⟩ | ⟨-, -, h⟩ | ⟨-, -, -, h⟩⟩⟩ :=
    validateCode_cases s <;> rw [h] <;> rfl

/-- The checks pass exactly when all five conditions hold. -/
theorem validateCode_eq_ok_iff (s : State) :
    validateCode s = .ok ↔
      5 ≤ rxCount s ∧
      (s.rx.read (rxCount s - 2) = loByte (crcRtu (s.rx.bytes (rxCount s - 2))) ∧
        s.rx.read (rxCount s - 1) = hiByte (crcRtu (s.rx.bytes (rxCount s - 2)))) ∧
      s.rx.read 0 = s.frSlave ∧ rxCount s = expTotal s ∧ s.rx.read 1 = s.frFunc ∧
      (s.rx.read 2).toNat = expData s := by
  obtain ⟨hshort, hcode⟩ | ⟨-, hcode, hcrc⟩ | ⟨hlen, hlo, hhi, hrest⟩ := validateCode_cases s
  · exact iff_of_false (by simp [hcode]) fun ⟨hlen, _⟩ => by omega
  · exact iff_of_false (by simp [hcode]) fun ⟨_, hlast, _⟩ => hcrc hlast
  obtain ⟨haddr, hcode⟩ | ⟨haddr, ⟨hne, -, hcode⟩ | ⟨hne, -, hcode⟩ | ⟨-, hfunc, hcode⟩ |
    ⟨htotal, hfunc, hcount, hcode⟩⟩ := hrest
  · exact iff_of_false (by simp [hcode]) fun ⟨_, _, h, _⟩ => haddr h
  · exact iff_of_false (by simp [hcode]) fun ⟨_, _, _, h, _⟩ => hne h
  · exact iff_of_false (by simp [hcode]) fun ⟨_, _, _, h, _⟩ => hne h
  · exact iff_of_false (by simp [hcode]) fun ⟨_, _, _, _, h⟩ => hfunc h
  · exact iff_of_true hcode ⟨hlen, ⟨hlo, hhi⟩, haddr, htotal, hfunc, hcount⟩

/-- The checks pass exactly on residue 0 and a frame that agrees with the descriptor (R157 (7)). -/
theorem validateCode_eq_ok_iff_residue (s : State) :
    validateCode s = .ok ↔
      5 ≤ rxCount s ∧ crcRtu (rxFrame s) = 0 ∧ s.rx.read 0 = s.frSlave ∧ rxCount s = expTotal s ∧
      s.rx.read 1 = s.frFunc ∧ (s.rx.read 2).toNat = expData s := by
  rw [validateCode_eq_ok_iff]
  refine and_congr_right fun hlen => and_congr_left fun _ => ?_
  rw [rxFrame, crcRtu_bytes_eq_zero_iff _ (by omega)]

/-! The command -/

/-- `s` after a validation that ends with `c`. -/
def State.validated (s : State) (c : ResultCode) : State :=
  ({ s with valPlLen := if c = ResultCode.ok then BitVec.ofNat 8 (expData s) else 0 } : State).finish c

theorem exec_validateRtu (a : Byte) (s : State) :
    exec (.validateRtu a) s = .next (s.validated (validateCode s)) := rfl

theorem State.validated_validated (s : State) (c : ResultCode) : (s.validated c).validated c = s.validated c := by
  have herr : stickyErr (stickyErr s.err c) c = stickyErr s.err c := by
    simp only [stickyErr, Bool.or_assoc, Bool.or_self]
  simp only [validated, finish, expData, herr]

/-- A validation writes nothing the checks look at. -/
theorem validateCode_validated (s : State) (c : ResultCode) : validateCode (s.validated c) = validateCode s := rfl

/-- A payload length that passed the checks is the count byte, so VAL_PL_LEN holds it whole (R152). -/
theorem toNat_valPlLen_validated {s : State} (h : validateCode s = .ok) :
    (s.validated (validateCode s)).valPlLen.toNat = expData s := by
  obtain ⟨-, -, -, -, -, hcount⟩ := (validateCode_eq_ok_iff s).mp h
  have hlt := (s.rx.read 2).isLt
  rw [State.validated, State.finish_valPlLen, if_pos h, BitVec.toNat_ofNat, Nat.mod_eq_of_lt (by omega)]

/-- A test made twice, the first time together with another one. -/
theorem ite_and_ite {α : Type} {P Q : Prop} [Decidable P] [Decidable Q] (x y z : α) :
    (if P ∧ Q then x else if P then y else z) = if P then (if Q then x else y) else z := by
  by_cases hP : P <;> simp only [hP, true_and, false_and, if_true, if_false]

/-- Settles O44: the code of the statement is the one of the checks, with the test of the length written twice. -/
theorem validateReportsTheFirstFailure : Obligations.ValidateReportsTheFirstFailure := by
  intro a s len r d c code
  have hcode : validateCode s = code := by
    simp only [code, ite_and_ite]
    rfl
  refine ⟨decode_encode (.validateRtu a), ?_⟩
  rw [← hcode, ← isError_validateCode]
  rfl

/-- Settles O45: the code is OK exactly on these frames, and VAL_PL_LEN follows the code. -/
theorem validatePassesExactlyOnConsistentFrames : Obligations.ValidatePassesExactlyOnConsistentFrames := by
  intro a s d
  refine ⟨_, exec_validateRtu a s, validateCode_eq_ok_iff_residue s, fun h => ?_, fun h => if_neg h⟩
  have hlen := toNat_valPlLen_validated h
  obtain ⟨-, -, -, htotal, -⟩ := (validateCode_eq_ok_iff s).mp h
  refine ⟨hlen, ?_⟩
  rw [hlen, ← rxCount, htotal, expTotal]
  omega

/-- Settles O46: the second validation ends with the same code, and writing it twice is writing it once. -/
theorem validateIsIdempotent : Obligations.ValidateIsIdempotent := by
  intro a b s t ht
  obtain rfl := Host.Outcome.next.inj ((exec_validateRtu a s).symm.trans ht)
  rw [exec_validateRtu, validateCode_validated, State.validated_validated]

end Sys2Proof.Machine
end

section
/-! PROOF. Values taken from a validated payload (spec/30_encoding.md R101, 43_parser.md R153, R154). -/

namespace Sys2Proof.Machine

theorem toNat_payloadF32 (s : State) (k : Nat) :
    (payloadF32 s k).toNat = (s.rx.read (3 + k)).toNat * 2 ^ 24 + (s.rx.read (4 + k)).toNat * 2 ^ 16 +
      (s.rx.read (5 + k)).toNat * 2 ^ 8 + (s.rx.read (6 + k)).toNat := by
  simp only [payloadF32, toNat_append_eq_add]
  omega

theorem toNat_payloadU16 (s : State) (k : Nat) :
    (payloadU16 s k).toNat = (s.rx.read (3 + k)).toNat * 2 ^ 8 + (s.rx.read (4 + k)).toNat :=
  toNat_append_eq_add _ _

/-- Settles O47: the range check, and the four bytes as one number. -/
theorem extractF32TakesBigEndianBytes : Obligations.ExtractF32TakesBigEndianBytes := by
  intro k s
  obtain ⟨t, ht⟩ := exec_ends (.extractF32 k) s
  refine ⟨decode_encode (.extractF32 k), t, ht, ?_⟩
  obtain ⟨hk, rfl⟩ | ⟨hk, rfl⟩ := execExtractF32_cases ht
  · rw [if_pos hk]
    exact State.finish_of_isError rfl s
  · rw [if_neg (by omega)]
    exact ⟨State.finish_ok _, toNat_payloadF32 s k.toNat⟩

/-- Settles O48: the range check, and the two bytes as one number, which 32 bits hold. -/
theorem extractU16TakesBigEndianBytes : Obligations.ExtractU16TakesBigEndianBytes := by
  intro k s
  obtain ⟨t, ht⟩ := exec_ends (.extractU16 k) s
  refine ⟨decode_encode (.extractU16 k), t, ht, ?_⟩
  obtain ⟨hk, rfl⟩ | ⟨hk, rfl⟩ := execExtractU16_cases ht
  · rw [if_pos hk]
    exact State.finish_of_isError rfl s
  · rw [if_neg (by omega)]
    refine ⟨State.finish_ok _, ?_⟩
    rw [State.finish_extWord, BitVec.toNat_setWidth_of_le (by decide)]
    exact toNat_payloadU16 s k.toNat

end Sys2Proof.Machine
end

section
/-! PROOF. SMP_ADD of one sample, and SMP_CLEAR (spec/44_sampler.md R175, R180, R181). -/

namespace Sys2Proof.Machine

/-! The operand of SMP_ADD -/

theorem argHigh_kindBits (k : ChannelKind) : argHigh ((kindBits k).setWidth 8) = 0 := by cases k <;> rfl

theorem argKind_kindBits (k : ChannelKind) : argKind ((kindBits k).setWidth 8) = k := by cases k <;> rfl

theorem argHigh_ne_zero_of_four_le {a : Byte} (h : 4 ≤ a.toNat) : argHigh a ≠ 0 := by
  intro h0
  have hnum := congrArg BitVec.toNat h0
  rw [argHigh, BitVec.extractLsb'_toNat, Nat.shiftRight_eq_div_pow] at hnum
  have := a.isLt
  simp only [BitVec.ofNat_eq_ofNat, BitVec.toNat_zero] at hnum
  omega

section
variable {s : State} {k : ChannelKind}

/-- SMP_ADD of a kind while the batch is not full. -/
theorem exec_smpAdd_of_lt (h : sampleSlot s k + 1 < s.smpN.toNat) :
    exec (.smpAdd ((kindBits k).setWidth 8)) s =
      .next ({ s.storeSample k (sampleSlot s k) with cursor := BitVec.ofNat 8 (sampleSlot s k + 1) }.finish .ok) := by
  simp only [exec, execSmpAdd, argHigh_kindBits, argKind_kindBits, ne_eq, not_true, if_false, if_pos h]

/-- SMP_ADD of a kind that completes the batch. -/
theorem exec_smpAdd_of_le (h : s.smpN.toNat ≤ sampleSlot s k + 1) :
    exec (.smpAdd ((kindBits k).setWidth 8)) s =
      .next (State.fill { s.storeSample k (sampleSlot s k) with cursor := 0 } s.smpN.toNat k) := by
  simp only [exec, execSmpAdd, argHigh_kindBits, argKind_kindBits, ne_eq, not_true, if_false, if_neg h.not_gt]

end

/-! A stored sample -/

/-- Rounding gives a datum of the format. -/
theorem F64.canonical_round (neg : Bool) (n : ℕ) {d : ℕ} (e : ℤ) (hd : d ≠ 0) : (F64.round neg n d e).Canonical :=
  F64.canonical_of_isRoundingOf (F64.isRoundingOf_round neg n e hd)

theorem F64.canonical_ofBits32 (w : Word) : (F64.ofBits32 w).Canonical := by
  unfold F64.ofBits32
  dsimp only
  split
  · split <;> trivial
  · split <;> exact F64.canonical_round _ _ _ one_ne_zero

/-- A datum of the format is the datum of its pattern, a NaN included when a NaN pattern is given for it. -/
theorem F64.ofBits_toBits_of_nan {d : F64} (hd : d.Canonical) {b : DWord} (hb : F64.ofBits b = .nan) :
    F64.ofBits (d.toBits b) = d := by
  by_cases h : d = .nan
  · rw [h]
    exact hb
  · exact F64.ofBits_toBits hd h b

/-- The datum of a widened pattern is that of the binary32 pattern. -/
theorem F64.ofBits_widen (b : DWord) (w : Word) : F64.ofBits (widen b w) = F64.ofBits32 w :=
  F64.ofBits_toBits_of_nan (F64.canonical_ofBits32 w) (F64.ofBits_quietNaNPattern b)

/-- What the two stores hold after a sample is put at a slot they have. -/
theorem State.slots_storeSample (s : State) (k : ChannelKind) {c : ℕ} (hc : c < Config.nMax) :
    F64.ofBits ((s.storeSample k c).bufP.slot c) = F64.ofBits32 s.smpPrim ∧
    F64.ofBits ((s.storeSample k c).bufT.slot c) = F64.ofBits32 s.smpTan ∧
    ∀ i, i ≠ c → (s.storeSample k c).bufP.slot i = s.bufP.slot i ∧ (s.storeSample k c).bufT.slot i = s.bufT.slot i := by
  simp only [storeSample_bufP, storeSample_bufT, Store.slot_put, true_and, if_pos hc, F64.ofBits_widen]
  intro i hi
  have hne : ¬(c = i ∧ i < Config.nMax) := fun h => hi h.1.symm
  rw [if_neg hne, if_neg hne]
  exact ⟨rfl, rfl⟩

/-! The obligations -/

/-- Settles O53: the slot stands below the capacity, so both stores have it. -/
theorem smpAddStoresASample : Obligations.SmpAddStoresASample := by
  intro k s c hc
  have hn : s.smpN.toNat ≤ Config.nMax := Nat.le_of_lt_succ s.smpN.isLt
  refine ⟨_, exec_smpAdd_of_lt hc, ?_, Nat.mod_eq_of_lt (hc.trans s.smpN.isLt),
    s.slots_storeSample k ((Nat.lt_of_succ_lt hc).trans_le hn)⟩
  rw [State.finish_ok]
  rfl

/-- Settles O52: BAD_ARG is an error, so it sets ERR. -/
theorem smpAddRefusesBadKinds : Obligations.SmpAddRefusesBadKinds := by
  intro a s ha
  rw [← State.finish_of_isError rfl]
  exact if_pos (argHigh_ne_zero_of_four_le ha)

/-- Settles O55: OK leaves ERR as it is. -/
theorem smpClearForgetsTheBatch : Obligations.SmpClearForgetsTheBatch := fun a _ =>
  ⟨decode_encode (.smpClear a), congrArg Host.Outcome.next (State.finish_ok _)⟩

end Sys2Proof.Machine
end

section
/-! PROOF. The SMP_ADD that completes a batch (spec/44_sampler.md R172 to R179): its results are data of the format, so the
EST registers hold them exactly, and a fill accepts or rejects. -/

namespace Sys2Proof.Machine

/-! Results of the format (R171 to R173) -/

/-- A quotient is a datum of the format, whatever the operands. -/
theorem F64.canonical_div (x y : F64) : (x.div y).Canonical := by
  cases x with
  | nan => rw [F64.nan_div]; trivial
  | inf a => cases y <;> trivial
  | fin a m e =>
    cases y with
    | nan => trivial
    | inf b => exact F64.canonical_of_isRoundingOf (F64.isRoundingOf_zero _)
    | fin b n f =>
      rcases eq_or_ne n 0 with rfl | hn
      · by_cases hm : m = 0 <;> simp [F64.div, hm, F64.Canonical]
      · rw [F64.div_fin a b m e f hn]
        exact F64.canonical_round _ _ _ hn

/-- The root of a datum of the format is one. -/
theorem F64.canonical_sqrt {x : F64} (hx : x.Canonical) : x.sqrt.Canonical := by
  cases x with
  | nan => trivial
  | inf s => cases s <;> trivial
  | fin s m e =>
    rcases eq_or_ne m 0 with rfl | hm
    · exact hx
    · cases s with
      | true => rw [F64.sqrt_fin_of_neg e hm]; trivial
      | false => exact F64.canonical_of_isRoundingOf (F64.isRoundingOf_sqrt_fin e hm)

theorem canonical_mean (xs : List F64) : (mean xs).Canonical := F64.canonical_div _ _

theorem canonical_stdDev (xs : List F64) (m : F64) : (stdDev xs m).Canonical :=
  F64.canonical_sqrt (F64.canonical_div _ _)

/-- The pattern of a result stands for the result. -/
theorem ofBits_resultBits (k : ℕ) {x : F64} (hx : x.Canonical) : F64.ofBits (resultBits k x) = x :=
  F64.ofBits_toBits_of_nan hx (F64.ofBits_nanPattern _)

/-- The divisors of a batch are exact. -/
theorem F64.denotes_ofNat {n : ℕ} (hn : n < 2 ^ 53) : (F64.ofNat n).Denotes n := by
  have h := F64.denotes_round false hn (by decide : F64.minExp ≤ 0) (by decide)
  rwa [sgn_false, one_mul, zpow_zero, mul_one] at h

/-- The pattern of +0.0, from which a sum starts. -/
theorem F64.ofBits_plus_zero : F64.ofBits 0x0000000000000000 = F64.zero false := F64.ofBits_signed_zero false

/-! The two outcomes of a fill (R176, R178, R179) -/

section
variable (s : State) (n : ℕ) (k : ChannelKind)

/-- The informational codes leave ERR as it is (60_exceptions.md R202). -/
theorem State.finish_fillAccepted : s.finish .fillAccepted = { s with lastResult := .fillAccepted } := by
  rw [finish, stickyErr_fillAccepted]

theorem State.finish_fillRejected : s.finish .fillRejected = { s with lastResult := .fillRejected } := by
  rw [finish, stickyErr_fillRejected]

theorem State.fill_of_rejected
    (h : rejected (batch s.bufP n) (mean (batch s.bufP n)) (F64.ofBits (maxdevBits s)) = true) :
    s.fill n k = { s with lastFillRej := true, rejCnt := s.rejCnt + 1, lastResult := .fillRejected } := by
  obtain ⟨-, heq⟩ | ⟨hacc, -⟩ := s.fill_cases n k
  · rw [heq, finish_fillRejected]
    rfl
  · rw [h] at hacc
    cases hacc

theorem State.fill_of_not_rejected
    (h : rejected (batch s.bufP n) (mean (batch s.bufP n)) (F64.ofBits (maxdevBits s)) = false) :
    s.fill n k = { s.acceptFill n k (mean (batch s.bufP n)) with lastResult := .fillAccepted } := by
  obtain ⟨hrej, -⟩ | ⟨-, heq⟩ := s.fill_cases n k
  · rw [h] at hrej
    cases hrej
  · rw [heq, finish_fillAccepted]

/-- A fill reads the sample stores and keeps them. -/
@[simp] theorem State.fill_bufP : (s.fill n k).bufP = s.bufP := by
  obtain ⟨-, heq⟩ | ⟨-, heq⟩ := s.fill_cases n k <;> rw [heq] <;> rfl

@[simp] theorem State.fill_bufT : (s.fill n k).bufT = s.bufT := by
  obtain ⟨-, heq⟩ | ⟨-, heq⟩ := s.fill_cases n k <;> rw [heq] <;> rfl

/-- The four results of an accepted fill, as data. -/
theorem State.results_acceptFill :
    let u := s.acceptFill n k (mean (batch s.bufP n))
    F64.ofBits u.estMean = mean (batch s.bufP n) ∧
    F64.ofBits u.estSd = stdDev (batch s.bufP n) (mean (batch s.bufP n)) ∧
    F64.ofBits u.estTmean = mean (batch s.bufT n) ∧
    F64.ofBits u.estTsd = stdDev (batch s.bufT n) (mean (batch s.bufT n)) :=
  ⟨ofBits_resultBits _ (canonical_mean _), ofBits_resultBits _ (canonical_stdDev _ _),
    ofBits_resultBits _ (canonical_mean _), ofBits_resultBits _ (canonical_stdDev _ _)⟩

end

/-- Settles O54: the sample is stored, and the fill that follows has one of its two outcomes. -/
theorem smpAddCompletesABatch : Obligations.SmpAddCompletesABatch := by
  intro k s hcur n c plusZero meanOf sdOf hn
  have hN : n < 2 ^ 8 := s.smpN.isLt
  have hc : c < Config.nMax := ((sampleSlot_le_cursor s k).trans_lt hcur).trans_le (Nat.le_of_lt_succ hN)
  have hmean (b : Store) : mean (batch b n) = meanOf (batch b n) := by
    simp only [mean, F64.sum, length_batch, meanOf, plusZero, F64.ofBits_plus_zero]
  have hsd (b : Store) : stdDev (batch b n) (mean (batch b n)) = sdOf (batch b n) := by
    simp only [stdDev, F64.sum_map, squaredDev, length_batch, hmean, sdOf, plusZero, F64.ofBits_plus_zero]
  let u : State := { s.storeSample k c with cursor := 0 }
  have hrejected : rejected (batch u.bufP n) (mean (batch u.bufP n)) (F64.ofBits (maxdevBits u)) = true ↔
      ∃ x ∈ batch u.bufP n, x.abs.gt ((meanOf (batch u.bufP n)).mul
        (F64.ofBits (s.smpMaxdevHi ++ s.smpMaxdevLo))) = true := by
    rw [rejected_iff, hmean]
    rfl
  obtain ⟨hprim, htan, hothers⟩ := s.slots_storeSample k hc
  refine ⟨F64.denotes_ofNat (hN.trans (by decide)), F64.denotes_ofNat (by omega), u.fill n k, exec_smpAdd_of_le hn, ?_⟩
  rw [State.fill_bufP, State.fill_bufT]
  refine ⟨hprim, htan, hothers, fun hexceeds => ?_, fun hexceeds => ?_⟩
  · rw [u.fill_of_rejected n k (hrejected.mpr hexceeds)]
    rfl
  · have hcount : BitVec.ofNat 8 n = s.smpN := by rw [BitVec.ofNat_toNat, BitVec.setWidth_eq]
    obtain ⟨hm, hd, htm, htd⟩ := u.results_acceptFill n k
    rw [u.fill_of_not_rejected n k (Bool.eq_false_iff.mpr (mt hrejected.mp hexceeds))]
    refine ⟨?_, hm.trans (hmean _), hd.trans (hsd _), htm.trans (hmean _), htd.trans (hsd _)⟩
    rw [State.acceptFill, hcount]
    rfl

end Sys2Proof.Machine
end

section
/-! PROOF. The outlier test on a NaN and on a negative mean (spec/44_sampler.md R174, R177). -/

namespace Sys2Proof.Machine

/-! NaNs (R177 (5) and (7)) -/

theorem F64.sum_of_nan_mem {xs : List F64} (h : F64.nan ∈ xs) : F64.sum xs = .nan := by
  obtain ⟨l, r, rfl⟩ := List.append_of_mem h
  rw [F64.sum, List.foldl_append, List.foldl_cons, F64.add_nan, F64.foldl_add_nan]

theorem mean_of_nan_mem {xs : List F64} (h : F64.nan ∈ xs) : mean xs = .nan := by
  rw [mean, F64.sum_of_nan_mem h, F64.nan_div]

theorem stdDev_nan {xs : List F64} (h : xs ≠ []) : stdDev xs .nan = .nan := by
  have hmem : F64.nan ∈ xs.map (squaredDev .nan) := by
    obtain ⟨x, hx⟩ := List.exists_mem_of_ne_nil xs h
    refine List.mem_map.mpr ⟨x, hx, ?_⟩
    rw [squaredDev, F64.sub_nan, F64.nan_mul]
  rw [stdDev, F64.sum_of_nan_mem hmem, F64.nan_div, F64.sqrt_nan]

/-- No magnitude exceeds a NaN threshold. -/
theorem rejected_eq_false_of_mul_eq_nan (xs : List F64) {m maxdev : F64} (h : m.mul maxdev = .nan) :
    rejected xs m maxdev = false := by
  rw [← Bool.not_eq_true, rejected_iff, h]
  rintro ⟨x, -, hgt⟩
  rw [F64.gt_nan] at hgt
  cases hgt

/-- Settles O56: the sum meets the NaN and keeps it, and so does every operation after it. -/
theorem naNsNeverRejectABatch : Obligations.NaNsNeverRejectABatch := by
  refine ⟨fun xs maxdev h => ?_, fun xs m => rejected_eq_false_of_mul_eq_nan xs (F64.mul_nan m)⟩
  rw [mean_of_nan_mem h]
  exact ⟨rfl, stdDev_nan (List.ne_nil_of_mem h), rejected_eq_false_of_mul_eq_nan xs (F64.nan_mul maxdev)⟩

/-! Negative means (R177 (3)) -/

theorem F64.zero_gt_fin_iff (neg : Bool) (m : ℕ) (e : ℤ) :
    (F64.zero false).gt (.fin neg m e) = true ↔ sgn neg * ((m : ℝ) * 2 ^ e) < 0 := by
  rw [F64.zero, F64.gt_fin_iff, Nat.cast_zero, zero_mul, mul_zero]

/-- Every magnitude exceeds what zero exceeds. -/
theorem F64.abs_gt_of_zero_gt {x t : F64} (hx : x ≠ .nan) (ht : (F64.zero false).gt t = true) :
    x.abs.gt t = true := by
  cases x with
  | nan => exact absurd rfl hx
  | inf a =>
    cases t with
    | nan => exact ht
    | inf b => exact ht
    | fin b n f => rfl
  | fin a m e =>
    cases t with
    | nan => exact ht
    | inf b => exact ht
    | fin b n f =>
      rw [F64.abs, F64.gt_fin_iff, sgn_false, one_mul]
      exact ((F64.zero_gt_fin_iff b n f).mp ht).trans_le (by positivity)

/-- What is at or below the largest negative number of the format is not rounded to zero. -/
theorem F64.zero_gt_of_isRoundingOf {d : F64} {x : ℝ} (h : d.IsRoundingOf x) (hx : x ≤ -2 ^ F64.minExp) :
    (F64.zero false).gt d = true := by
  have hmin := two_zpow_pos F64.minExp
  have hneg : x < 0 := by linarith
  cases d with
  | nan => exact h.elim
  | inf neg => exact h.2.mpr hneg
  | fin neg m e =>
    obtain ⟨-, -, -, -, -, -, hsign, hnear⟩ := h
    have hm : m ≠ 0 := by
      rintro rfl
      have hle := (hnear 1 F64.minExp (by norm_num) le_rfl (by decide)).1
      rw [Nat.cast_zero, zero_mul, sub_zero, abs_abs, Nat.cast_one, one_mul, abs_of_neg hneg,
        abs_of_nonneg (by linarith)] at hle
      linarith
    rw [F64.zero_gt_fin_iff]
    have hpos : (0 : ℝ) < m * 2 ^ e := mul_pos (Nat.cast_pos.mpr (Nat.pos_of_ne_zero hm)) (two_zpow_pos e)
    exact (sgn_mul_neg_iff neg hpos).mpr (hsign hneg)

/-- A finite datum of a value of at least 1 is a positive number. -/
theorem F64.exists_fin_of_one_le {d : F64} {y : ℝ} (h : d.Denotes y) (hy : 1 ≤ y) :
    ∃ n f, d = .fin false n f ∧ n ≠ 0 ∧ 1 ≤ (n : ℝ) * 2 ^ f := by
  obtain ⟨neg, n, f, rfl, rfl⟩ := F64.denotes_iff.mp h
  obtain rfl : neg = false := sign_of_sgn_mul_pos (by positivity) (one_pos.trans_le hy)
  rw [sgn_false, one_mul] at hy
  refine ⟨n, f, rfl, ?_, hy⟩
  rintro rfl
  norm_num at hy

/-- A negative mean of the format times a MAXDEV of at least 1 stays negative. -/
theorem F64.zero_gt_mul {m : ℕ} {e : ℤ} (hm : 0 < m) (he : F64.minExp ≤ e) {n : ℕ} {f : ℤ}
    (hy : 1 ≤ (n : ℝ) * 2 ^ f) : (F64.zero false).gt ((F64.fin true m e).mul (.fin false n f)) = true := by
  refine F64.zero_gt_of_isRoundingOf (F64.isRoundingOf_mul_fin true false m n e f) ?_
  have hmag : (2 : ℝ) ^ F64.minExp ≤ m * 2 ^ e :=
    calc (2 : ℝ) ^ F64.minExp ≤ 2 ^ e := zpow_le_zpow_right₀ one_le_two he
      _ ≤ m * 2 ^ e := le_mul_of_one_le_left (two_zpow_pos e).le (Nat.one_le_cast.mpr hm)
  have hprod : (m : ℝ) * 2 ^ e ≤ m * 2 ^ e * (n * 2 ^ f) := le_mul_of_one_le_right (by positivity) hy
  rw [sgn_true, sgn_false]
  linarith

/-- A batch with a number in it exceeds a negative threshold. -/
theorem rejected_of_zero_gt_mul {xs : List F64} {x m maxdev : F64} (hmem : x ∈ xs) (hx : x ≠ .nan)
    (h : (F64.zero false).gt (m.mul maxdev) = true) : rejected xs m maxdev = true :=
  (rejected_iff xs m maxdev).mpr ⟨x, hmem, F64.abs_gt_of_zero_gt hx h⟩

/-- The MAXDEV of reset, 1.01 (10_state.md R47). -/
theorem F64.ofBits_reset_maxdev : F64.ofBits 0x3FF028F5C28F5C29 = .fin false 0x1028F5C28F5C29 (-52) := by decide

/-- Settles O57: the threshold is negative, for a finite mean by what rounding keeps. -/
theorem negativeMeanIsRejected : Obligations.NegativeMeanIsRejected := by
  refine ⟨⟨_, F64.denotes_iff.mpr ⟨_, _, _, F64.ofBits_reset_maxdev, rfl⟩, by norm_num⟩, ?_⟩
  intro w y hw hy xs x hmem hx
  obtain ⟨n, f, hd, hn, hone⟩ := F64.exists_fin_of_one_le hw hy
  rw [hd]
  refine ⟨fun m e hm _ he _ => rejected_of_zero_gt_mul hmem hx (F64.zero_gt_mul hm he hone), ?_⟩
  refine rejected_of_zero_gt_mul hmem hx ?_
  rw [F64.inf_mul_fin, if_neg hn]
  rfl

end Sys2Proof.Machine
end

section
/-! PROOF. The control commands: NOP, CLEAR_STATUS and SOFT_RESET (spec/45_control.md R190 to R192). -/

namespace Sys2Proof.Machine

/-- Settles O31: both commands end with OK, which leaves ERR as it is; CLEAR_STATUS clears it before. -/
theorem nopAndClearStatusTouchOnlyStatus : Obligations.NopAndClearStatusTouchOnlyStatus := fun a s =>
  ⟨decode_encode (.nop a), decode_encode (.clearStatus a), congrArg Host.Outcome.next s.finish_ok,
    congrArg Host.Outcome.next (State.finish_ok { s with err := false })⟩

/-- SOFT_RESET resets the engine: LAST_RESULT is OK at reset (70_reset_and_hazards.md R221), so ending with OK changes
nothing more. -/
theorem exec_softReset (a : Byte) (s : State) : exec (.softReset a) s = .next s.resetEngine :=
  congrArg Host.Outcome.next s.resetEngine.finish_ok

/-- Settles O32: a reset of the engine sets every field of the engine but the sample stores to its reset value. -/
theorem softResetLeavesTheResetState : Obligations.SoftResetLeavesTheResetState := fun a s =>
  ⟨s.resetEngine, exec_softReset a s, rfl⟩

end Sys2Proof.Machine
end

section
/-! PROOF. How a command ends (spec/60_exceptions.md R200 to R205): its code, ERR, and what a failing command
leaves as it was. -/

namespace Sys2Proof.Machine

variable {i : Instr} {s t : State}

/-! Error codes (R203) -/

theorem codeClass_eq_error_iff (b : Byte) : codeClass b = some .error ↔ 1 ≤ b.toNat ∧ b.toNat ≤ 0x3F := by
  unfold codeClass
  split
  · exact iff_of_false nofun (by omega)
  · split
    · exact iff_of_true rfl (by omega)
    · split <;> exact iff_of_false nofun (by omega)

theorem isError_iff (c : ResultCode) :
    isError c = true ↔ 1 ≤ (resultByte c).toNat ∧ (resultByte c).toNat ≤ 0x3F := by
  rw [isError, decide_eq_true_iff, codeClass_eq_error_iff]

/-! The codes each command raises (R200) -/

/-- The column "raised by" of R200, read by command; ILLEGAL_CMD is the decoder's (30_encoding.md R94). -/
def raisedBy : Instr → List ResultCode
  | .crcLoadProfile _ => [.ok, .badArg]
  | .validateRtu _ =>
    [.ok, .frameTooShort, .crcMismatch, .addressMismatch, .bcUnsupported, .bcSlaveError, .funcCountMismatch]
  | .extractF32 _ => [.ok, .extractRange]
  | .extractU16 _ => [.ok, .extractRange]
  | .mmkDecode _ => [.ok, .mmkBadStart, .mmkBadStuff, .mmkNoEnd, .mmkTrailing, .mmkBadLength, .mmkCrcMismatch]
  | .smpAdd _ => [.ok, .badArg, .fillAccepted, .fillRejected]
  | _ => [.ok]

theorem validateCode_mem_raisedBy (a : Byte) (s : State) : validateCode s ∈ raisedBy (.validateRtu a) := by
  obtain ⟨-, h⟩ | ⟨-, h, -⟩ | ⟨-, -, -, ⟨-, h⟩ | ⟨-, ⟨-, -, h⟩ | ⟨-, -, h⟩ | ⟨-, -, h⟩ | ⟨-, -, -, h⟩⟩⟩ :=
    validateCode_cases s <;> simp [raisedBy, h]

/-- The start marker, the loop and the payload checks fail each with codes of their own (43_parser.md R155). -/
theorem mem_raisedBy_of_mmkParse_eq_error (a : Byte) {frame : List Byte} {c : ResultCode}
    (h : mmkParse frame = .error c) : c ∈ raisedBy (.mmkDecode a) := by
  by_cases hstart : ∃ body, frame = 0x10 :: 0x02 :: body
  · obtain ⟨body, rfl⟩ := hstart
    rw [mmkParse_start] at h
    cases hbody : unstuff body with
    | error d =>
      rw [hbody] at h
      cases h
      obtain rfl | rfl := unstuff_eq_error hbody <;> simp [raisedBy]
    | ok x =>
      rw [hbody] at h
      change mmkPayloadCheck x = .error c at h
      unfold mmkPayloadCheck at h
      split_ifs at h <;> cases h <;> simp [raisedBy]
  · rw [mmkParse_of_no_start (not_exists.mp hstart)] at h
    cases h
    simp [raisedBy]

/-! The end of a command -/

/-- The pending events, the answer and the reset line, which belong to the host and the platform, are the same. -/
def State.SameHost (s u : State) : Prop :=
  u.pending = s.pending ∧ u.answer = s.answer ∧ u.resetAsserted = s.resetAsserted

theorem State.sameHost_emit (s : State) (f : List Byte) : s.SameHost (s.emit f) :=
  ⟨s.emit_pending f, s.emit_answer f, s.emit_resetAsserted f⟩

/-- `t` is a state in which command `i`, run in `s`, may end: its code is one that `i` raises (R200), ERR follows the
code (R202), a failure changes STATUS alone but for the VAL_PL_LEN of VALIDATE_RTU (R205), and nothing of the host moves. -/
structure Ends (i : Instr) (s t : State) : Prop where
  code : t.lastResult ∈ raisedBy i
  err : t.err = true ↔ isError t.lastResult = true ∨ (s.err = true ∧ opcode i ≠ 0x3E ∧ opcode i ≠ 0x3F)
  precise : isError t.lastResult = true →
    t = { s with
      valPlLen := if opcode i = 0x20 then 0 else s.valPlLen
      lastResult := t.lastResult
      err := true }
  host : s.SameHost t

/-- A command that succeeds may write any state `u`, if it leaves ERR to CLEAR_STATUS and SOFT_RESET. -/
theorem Ends.of_success {c : ResultCode} (hc : isError c = false) (hcode : c ∈ raisedBy i) {u : State}
    (herr : u.err = true ↔ s.err = true ∧ opcode i ≠ 0x3E ∧ opcode i ≠ 0x3F) (hhost : s.SameHost u) :
    Ends i s (u.finish c) where
  code := hcode
  err := by simp [stickyErr, hc, herr]
  precise h := absurd h (by simp [hc])
  host := hhost

/-- A command that fails writes at most VAL_PL_LEN. -/
theorem Ends.of_failure {c : ResultCode} (hc : isError c = true) (hcode : c ∈ raisedBy i) :
    Ends i s (State.finish { s with valPlLen := if opcode i = 0x20 then 0 else s.valPlLen } c) where
  code := hcode
  err := by simp [stickyErr, hc]
  precise _ := State.finish_of_isError hc _
  host := ⟨rfl, rfl, rfl⟩

/-- A fill ends with an informational code, accepted or rejected (44_sampler.md R178, R179). -/
theorem ends_fill {a : Byte} {u : State} (n : ℕ) (k : ChannelKind) (herr : u.err = s.err) (hhost : s.SameHost u) :
    Ends (.smpAdd a) s (u.fill n k) := by
  obtain ⟨-, heq⟩ | ⟨-, heq⟩ := u.fill_cases n k
  · rw [heq]
    exact .of_success rfl (by simp [raisedBy]) (by simp [opcode, herr]) hhost
  · rw [heq]
    exact .of_success rfl (by simp [raisedBy]) (by simp [opcode, herr]) hhost

/-- Every command ends in such a state, by the outcomes of each. -/
theorem ends_of_exec (h : exec i s = .next t) : Ends i s t := by
  cases i with
  | nop a | crcStart a | crcFeed a | crcComputeRx a | smpClear a | clearStatus a | softReset a =>
    cases h
    exact .of_success rfl (by simp [raisedBy]) (by simp [opcode, State.reset]) ⟨rfl, rfl, rfl⟩
  | buildRtuRead a | buildRtuWrite a | buildMmk a =>
    cases h
    exact .of_success rfl (by simp [raisedBy]) (by simp [opcode]) (s.sameHost_emit _)
  | crcLoadProfile a =>
    obtain ⟨-, rfl⟩ | ⟨-, rfl⟩ | ⟨-, rfl⟩ := execCrcLoadProfile_cases h
    · exact .of_success rfl (by simp [raisedBy]) (by simp [opcode]) ⟨rfl, rfl, rfl⟩
    · exact .of_success rfl (by simp [raisedBy]) (by simp [opcode]) ⟨rfl, rfl, rfl⟩
    · exact .of_failure rfl (by simp [raisedBy])
  | validateRtu a =>
    cases h
    have hcode := validateCode_mem_raisedBy a s
    by_cases hok : validateCode s = .ok
    · exact .of_success (by rw [hok]; rfl) hcode (by simp [opcode]) ⟨rfl, rfl, rfl⟩
    · have hfail : isError (validateCode s) = true := by rw [isError_validateCode, decide_eq_true hok]
      rw [if_neg hok]
      exact .of_failure hfail hcode
  | extractF32 a =>
    obtain ⟨-, rfl⟩ | ⟨-, rfl⟩ := execExtractF32_cases h
    · exact .of_failure rfl (by simp [raisedBy])
    · exact .of_success rfl (by simp [raisedBy]) (by simp [opcode]) ⟨rfl, rfl, rfl⟩
  | extractU16 a =>
    obtain ⟨-, rfl⟩ | ⟨-, rfl⟩ := execExtractU16_cases h
    · exact .of_failure rfl (by simp [raisedBy])
    · exact .of_success rfl (by simp [raisedBy]) (by simp [opcode]) ⟨rfl, rfl, rfl⟩
  | mmkDecode a =>
    obtain ⟨c, hparse, rfl⟩ | ⟨-, -, ht, -⟩ := execMmkDecode_cases (arg := a) h
    · exact .of_failure (isError_of_mmkParse_eq_error hparse) (mem_raisedBy_of_mmkParse_eq_error a hparse)
    · rw [ht]
      exact .of_success rfl (by simp [raisedBy]) (by simp [opcode]) ⟨rfl, rfl, rfl⟩
  | smpAdd a =>
    obtain ⟨-, rfl⟩ | ⟨-, -, rfl⟩ | ⟨-, -, rfl⟩ := execSmpAdd_cases h
    · exact .of_failure rfl (by simp [raisedBy])
    · exact .of_success rfl (by simp [raisedBy]) (by simp [opcode]) ⟨rfl, rfl, rfl⟩
    · exact ends_fill _ _ rfl ⟨rfl, rfl, rfl⟩

/-- Settles O23: ERR follows the code, and the error codes are 0x01 to 0x3F. -/
theorem errIsStickyUntilCleared : Obligations.ErrIsStickyUntilCleared := fun _ _ t h => by
  rw [← isError_iff t.lastResult]
  exact (ends_of_exec h).err

/-- Settles O24: a code from 0x01 to 0x3F is an error, and a failing command writes at most VAL_PL_LEN. -/
theorem errorsArePrecise : Obligations.ErrorsArePrecise := fun _ _ t h hcode =>
  (ends_of_exec h).precise ((isError_iff t.lastResult).mpr hcode)

/-- Settles O25: the column of R200 is `raisedBy`. -/
theorem commandsEndWithTheirCodes : Obligations.CommandsEndWithTheirCodes := fun i _ _ h => by
  have hcode := (ends_of_exec h).code
  cases i <;> exact hcode

/-- Settles O21: every command has a next state, and no way to end moves anything of the host. -/
theorem everyCommandEnds : Obligations.EveryCommandEnds := by
  intro i s
  obtain ⟨t, ht⟩ := exec_ends i s
  exact ⟨t, ht, (ends_of_exec ht).host⟩

end Sys2Proof.Machine
end

section
/-! PROOF. STATUS is written by the commands alone (spec/60_exceptions.md R201). -/

namespace Sys2Proof.Machine

variable {s t : State} {o : Offset}

/-- Only the offset of a register selects it. -/
theorem offset_eq_of_slotAt_reg {r : Reg} (h : slotAt o = .reg r) : r.offset = o := by
  unfold slotAt at h
  split_ifs at h
  split at h
  · rename_i hfind
    cases h
    simpa using List.find?_some hfind
  · cases h

theorem writeReg_keeps_status (r : Reg) (v : Word) (s : State) :
    (writeReg r v s).lastResult = s.lastResult ∧ (writeReg r v s).err = s.err := by
  cases r <;> exact ⟨rfl, rfl⟩

theorem serveWrite_keeps_status {v : Word} (ho : o ≠ Reg.cmd.offset) (h : serveWrite o v s = .next t) :
    t.lastResult = s.lastResult ∧ t.err = s.err := by
  obtain ⟨hcmd, -⟩ | ⟨r, -, -, rfl⟩ | ⟨k, -, rfl⟩ | ⟨-, rfl⟩ := serveWrite_cases h
  · exact absurd (offset_eq_of_slotAt_reg hcmd).symm ho
  · exact writeReg_keeps_status r v s
  · exact ⟨rfl, rfl⟩
  · exact ⟨rfl, rfl⟩

/-- Settles O27: a read writes the answer alone, and the write of another offset reaches no command. -/
theorem onlyCommandsChangeStatus : Obligations.OnlyCommandsChangeStatus := by
  intro s t e rest hpending hnoCommand hnoReset hstep
  rw [step_of_pending hpending] at hstep
  obtain ⟨b, he, -⟩ | ⟨o, -, -, -, rfl⟩ | ⟨o, v, he, -, -, hwrite⟩ := serve_cases hstep
  · exact absurd he (hnoReset b)
  · exact ⟨rfl, rfl⟩
  · have ho : o ≠ Reg.cmd.offset := by
      rintro rfl
      exact hnoCommand v he
    exact serveWrite_keeps_status (s := { s with pending := rest, answer := .written }) ho hwrite

end Sys2Proof.Machine
end

section
/-! PROOF. The reset line, and the state it leaves (spec/70_reset_and_hazards.md R220, R221). -/

namespace Sys2Proof.Machine

variable {s : State}

/-! The line (R220) -/

theorem serve_read_in_reset (h : s.resetAsserted = true) (o : Offset) (width : AccessWidth) :
    serve (.read o width) s = .refused .accessInReset := if_pos h

theorem serve_write_in_reset (h : s.resetAsserted = true) (o : Offset) (width : AccessWidth) (v : Word) :
    serve (.write o width v) s = .refused .accessInReset := if_pos h

/-- A step that serves a move of the line moves it. -/
theorem step_resetLine {b : Bool} {rest : List BusEvent} (h : s.pending = .resetLine b :: rest) :
    step s = .next (moveReset b { s with pending := rest }) := step_of_pending h

/-- Settles O17: the line is tested before anything else of an access, and only its falling edge resets the engine. -/
theorem resetLineRefusesThenResets : Obligations.ResetLineRefusesThenResets := by
  intro s rest o width v
  refine ⟨?read, ?write, ?assertion, ?idle, ?deassertion⟩
  case read => exact (step_of_pending rfl).trans (serve_read_in_reset rfl o width)
  case write => exact (step_of_pending rfl).trans (serve_write_in_reset rfl o width v)
  case assertion => rw [step_resetLine rfl, moveReset_of_not_deasserted (by simp)]
  case idle => rw [step_resetLine rfl, moveReset_of_not_deasserted (by simp)]
  case deassertion =>
    refine ⟨_, step_resetLine rfl, ?_⟩
    rw [moveReset_of_deasserted ⟨rfl, rfl⟩]
    rfl

/-! What stands in the registers (R221) -/

/-- Every register's offset with the word it reads as. -/
def registerTable (s : State) : List (Offset × Word) := Reg.all.map fun r => (r.offset, readReg r s)

theorem readAt_of_mem_registerTable {p : Offset × Word} (hp : p ∈ registerTable s) : readAt p.1 s = p.2 := by
  obtain ⟨r, -, rfl⟩ := List.mem_map.mp hp
  exact readAt_offset r s

@[simp] theorem Memory.read_nil (i : Nat) : Memory.read [] i = 0x00 := rfl

/-- Settles O18: the list evaluates to the register table of the reset state, row by row, and both buffers are empty
there. -/
theorem resetRegistersReadTheirValues : Obligations.ResetRegistersReadTheirValues := by
  refine ⟨fun p hp => ?_, Memory.read_nil, Memory.read_nil⟩
  change p ∈ registerTable State.reset at hp
  exact readAt_of_mem_registerTable hp

/-- Settles O29: it is the base case of the invariant of O28. -/
theorem resetStateHasTheInvariant : Obligations.ResetStateHasTheInvariant := inv_reset

end Sys2Proof.Machine
end
